-- ==== Sys2Proof/Word.lean ====
section
/-! DEFINITION. The two word types of the machine (00_scope.md R5, R7): every register but PC is a byte, PC and
every address is a 16-bit word, and their arithmetic wraps. -/

namespace Sys2Proof

/-- `u8`: data, and the registers A, X, Y, SP and P. -/
abbrev Byte := BitVec 8

/-- `u16`: PC and every address. -/
abbrev Word := BitVec 16

end Sys2Proof
end

