-- ==== Sys2Proof/Machine/Bits.lean ====
section
/-! DEFINITION. Bit-field helpers: byte order of a word and the two extensions (00_scope.md R7, R8). -/

namespace Sys2Proof

/-- `{hi, lo}`: the high byte stands in bits 15 to 8 (R7). -/
def wordOfBytes (hi lo : Byte) : Word := hi ++ lo

/-- `w[7:0]`. -/
def lowByte (w : Word) : Byte := w.extractLsb' 0 8

/-- `w[15:8]`. -/
def highByte (w : Word) : Byte := w.extractLsb' 8 8

/-- `zext_16(v)` (R8). -/
def zext16 (v : Byte) : Word := v.setWidth 16

/-- `sext_16(v)`: `v` if `v < 0x80`, else `0xFF00 + v` (R8). -/
def sext16 (v : Byte) : Word := v.signExtend 16

/-- A single bit as a byte, in bit 0. -/
def bitByte (b : Bool) : Byte := if b then 1 else 0

end Sys2Proof
end

