-- ==== Sys2Proof/Syntax.lean ====
section
/-! DEFINITION. The instruction set as syntax: the 55 mnemonics, the 13 addressing-mode tags, the operands of the
eleven modes that produce an address, and `Instr`, one constructor per row of spec/opcode_table.json
(30_encoding.md R66). No instruction names a register in a field (10_state.md R11): the constructor fixes it, and
its argument is the operand byte or the operand word that follows the opcode (R62, R63, R65). -/

namespace Sys2Proof

/-- The 55 mnemonics of 30_encoding.md R66. -/
inductive Mnemonic where
  | lda | ldx | ldy | sta | stx | sty | tax | txa | tay | tya | tsx | txs
  | adc | sbc | and | ora | eor | asl | lsr | rol | ror | inc | dec | inx
  | dex | iny | dey | cmp | cpx | cpy | bit | bcc | bcs | beq | bne | bmi
  | bpl | bvc | bvs | jmp | jsr | rts | pha | pla | php | plp | sec | clc
  | sei | cli | sed | cld | clv | nop | brk
  deriving DecidableEq, Repr

/-- The thirteen addressing-mode tags, a closed enumeration (41_addressing_modes.md R100, R115). -/
inductive Mode where
  | implied | accumulator | immediate | zeroPage | zeroPageX | zeroPageY | absolute
  | absoluteX | absoluteY | indirect | indirectX | indirectY | relative
  deriving DecidableEq, Repr

/-- The operand of each of the eleven modes that produce an address, with the operand byte or word the
instruction carries (R103 to R113). -/
inductive Operand where
  | immediate (n : Byte) | zeroPage (n : Byte) | zeroPageX (n : Byte) | zeroPageY (n : Byte)
  | absolute (w : Word) | absoluteX (w : Word) | absoluteY (w : Word) | indirect (w : Word)
  | indirectX (n : Byte) | indirectY (n : Byte) | relative (d : Byte)
  deriving DecidableEq, Repr

/-- The mode tag of an operand. -/
def Operand.mode : Operand → Mode
  | .immediate _ => .immediate
  | .zeroPage _ => .zeroPage
  | .zeroPageX _ => .zeroPageX
  | .zeroPageY _ => .zeroPageY
  | .absolute _ => .absolute
  | .absoluteX _ => .absoluteX
  | .absoluteY _ => .absoluteY
  | .indirect _ => .indirect
  | .indirectX _ => .indirectX
  | .indirectY _ => .indirectY
  | .relative _ => .relative

/-- The instructions: one constructor per row of spec/opcode_table.json. -/
inductive Instr where
  -- LDA: rule R120
  | ldaImmediate (n : Byte) | ldaZeroPage (n : Byte) | ldaZeroPageX (n : Byte) | ldaAbsolute (w : Word)
  | ldaAbsoluteX (w : Word) | ldaAbsoluteY (w : Word) | ldaIndirectX (n : Byte) | ldaIndirectY (n : Byte)
  -- LDX: rule R121
  | ldxImmediate (n : Byte) | ldxZeroPage (n : Byte) | ldxZeroPageY (n : Byte) | ldxAbsolute (w : Word)
  | ldxAbsoluteY (w : Word)
  -- LDY: rule R122
  | ldyImmediate (n : Byte) | ldyZeroPage (n : Byte) | ldyZeroPageX (n : Byte) | ldyAbsolute (w : Word)
  | ldyAbsoluteX (w : Word)
  -- STA: rule R123
  | staZeroPage (n : Byte) | staZeroPageX (n : Byte) | staAbsolute (w : Word) | staAbsoluteX (w : Word)
  | staAbsoluteY (w : Word) | staIndirectX (n : Byte) | staIndirectY (n : Byte)
  -- STX: rule R124
  | stxZeroPage (n : Byte) | stxZeroPageY (n : Byte) | stxAbsolute (w : Word)
  -- STY: rule R125
  | styZeroPage (n : Byte) | styZeroPageX (n : Byte) | styAbsolute (w : Word)
  -- TAX: rule R126
  | tax
  -- TXA: rule R127
  | txa
  -- TAY: rule R128
  | tay
  -- TYA: rule R129
  | tya
  -- TSX: rule R130
  | tsx
  -- TXS: rule R131
  | txs
  -- ADC: rule R140
  | adcImmediate (n : Byte) | adcZeroPage (n : Byte) | adcZeroPageX (n : Byte) | adcAbsolute (w : Word)
  | adcAbsoluteX (w : Word) | adcAbsoluteY (w : Word) | adcIndirectX (n : Byte) | adcIndirectY (n : Byte)
  -- SBC: rule R141
  | sbcImmediate (n : Byte) | sbcZeroPage (n : Byte) | sbcZeroPageX (n : Byte) | sbcAbsolute (w : Word)
  | sbcAbsoluteX (w : Word) | sbcAbsoluteY (w : Word) | sbcIndirectX (n : Byte) | sbcIndirectY (n : Byte)
  -- AND: rule R142
  | andImmediate (n : Byte) | andZeroPage (n : Byte) | andZeroPageX (n : Byte) | andAbsolute (w : Word)
  | andAbsoluteX (w : Word) | andAbsoluteY (w : Word) | andIndirectX (n : Byte) | andIndirectY (n : Byte)
  -- ORA: rule R143
  | oraImmediate (n : Byte) | oraZeroPage (n : Byte) | oraZeroPageX (n : Byte) | oraAbsolute (w : Word)
  | oraAbsoluteX (w : Word) | oraAbsoluteY (w : Word) | oraIndirectX (n : Byte) | oraIndirectY (n : Byte)
  -- EOR: rule R144
  | eorImmediate (n : Byte) | eorZeroPage (n : Byte) | eorZeroPageX (n : Byte) | eorAbsolute (w : Word)
  | eorAbsoluteX (w : Word) | eorAbsoluteY (w : Word) | eorIndirectX (n : Byte) | eorIndirectY (n : Byte)
  -- ASL: rule R150
  | aslAccumulator | aslZeroPage (n : Byte) | aslZeroPageX (n : Byte) | aslAbsolute (w : Word)
  | aslAbsoluteX (w : Word)
  -- LSR: rule R151
  | lsrAccumulator | lsrZeroPage (n : Byte) | lsrZeroPageX (n : Byte) | lsrAbsolute (w : Word)
  | lsrAbsoluteX (w : Word)
  -- ROL: rule R152
  | rolAccumulator | rolZeroPage (n : Byte) | rolZeroPageX (n : Byte) | rolAbsolute (w : Word)
  | rolAbsoluteX (w : Word)
  -- ROR: rule R153
  | rorAccumulator | rorZeroPage (n : Byte) | rorZeroPageX (n : Byte) | rorAbsolute (w : Word)
  | rorAbsoluteX (w : Word)
  -- INC: rule R154
  | incZeroPage (n : Byte) | incZeroPageX (n : Byte) | incAbsolute (w : Word) | incAbsoluteX (w : Word)
  -- DEC: rule R155
  | decZeroPage (n : Byte) | decZeroPageX (n : Byte) | decAbsolute (w : Word) | decAbsoluteX (w : Word)
  -- INX: rule R156
  | inx
  -- DEX: rule R157
  | dex
  -- INY: rule R158
  | iny
  -- DEY: rule R159
  | dey
  -- CMP: rule R165
  | cmpImmediate (n : Byte) | cmpZeroPage (n : Byte) | cmpZeroPageX (n : Byte) | cmpAbsolute (w : Word)
  | cmpAbsoluteX (w : Word) | cmpAbsoluteY (w : Word) | cmpIndirectX (n : Byte) | cmpIndirectY (n : Byte)
  -- CPX: rule R166
  | cpxImmediate (n : Byte) | cpxZeroPage (n : Byte) | cpxAbsolute (w : Word)
  -- CPY: rule R167
  | cpyImmediate (n : Byte) | cpyZeroPage (n : Byte) | cpyAbsolute (w : Word)
  -- BIT: rule R168
  | bitZeroPage (n : Byte) | bitAbsolute (w : Word)
  -- BCC: rule R176
  | bcc (d : Byte)
  -- BCS: rule R177
  | bcs (d : Byte)
  -- BEQ: rule R178
  | beq (d : Byte)
  -- BNE: rule R179
  | bne (d : Byte)
  -- BMI: rule R180
  | bmi (d : Byte)
  -- BPL: rule R181
  | bpl (d : Byte)
  -- BVC: rule R182
  | bvc (d : Byte)
  -- BVS: rule R183
  | bvs (d : Byte)
  -- JMP: rule R184
  | jmpAbsolute (w : Word) | jmpIndirect (w : Word)
  -- JSR: rule R186
  | jsr (w : Word)
  -- RTS: rule R187
  | rts
  -- PHA: rule R195
  | pha
  -- PLA: rule R196
  | pla
  -- PHP: rule R197
  | php
  -- PLP: rule R198
  | plp
  -- SEC: rule R199
  | sec
  -- CLC: rule R200
  | clc
  -- SEI: rule R201
  | sei
  -- CLI: rule R202
  | cli
  -- SED: rule R203
  | sed
  -- CLD: rule R204
  | cld
  -- CLV: rule R205
  | clv
  -- NOP: rule R206
  | nop
  -- BRK: rule R207
  | brk
  deriving DecidableEq, Repr

/-- The mnemonic of the row an instruction stands for (the left column of R66). -/
def Instr.mnemonic : Instr → Mnemonic
  | .ldaImmediate _ | .ldaZeroPage _ | .ldaZeroPageX _ | .ldaAbsolute _ | .ldaAbsoluteX _
  | .ldaAbsoluteY _ | .ldaIndirectX _ | .ldaIndirectY _ => .lda
  | .ldxImmediate _ | .ldxZeroPage _ | .ldxZeroPageY _ | .ldxAbsolute _ | .ldxAbsoluteY _ => .ldx
  | .ldyImmediate _ | .ldyZeroPage _ | .ldyZeroPageX _ | .ldyAbsolute _ | .ldyAbsoluteX _ => .ldy
  | .staZeroPage _ | .staZeroPageX _ | .staAbsolute _ | .staAbsoluteX _ | .staAbsoluteY _
  | .staIndirectX _ | .staIndirectY _ => .sta
  | .stxZeroPage _ | .stxZeroPageY _ | .stxAbsolute _ => .stx
  | .styZeroPage _ | .styZeroPageX _ | .styAbsolute _ => .sty
  | .tax => .tax
  | .txa => .txa
  | .tay => .tay
  | .tya => .tya
  | .tsx => .tsx
  | .txs => .txs
  | .adcImmediate _ | .adcZeroPage _ | .adcZeroPageX _ | .adcAbsolute _ | .adcAbsoluteX _
  | .adcAbsoluteY _ | .adcIndirectX _ | .adcIndirectY _ => .adc
  | .sbcImmediate _ | .sbcZeroPage _ | .sbcZeroPageX _ | .sbcAbsolute _ | .sbcAbsoluteX _
  | .sbcAbsoluteY _ | .sbcIndirectX _ | .sbcIndirectY _ => .sbc
  | .andImmediate _ | .andZeroPage _ | .andZeroPageX _ | .andAbsolute _ | .andAbsoluteX _
  | .andAbsoluteY _ | .andIndirectX _ | .andIndirectY _ => .and
  | .oraImmediate _ | .oraZeroPage _ | .oraZeroPageX _ | .oraAbsolute _ | .oraAbsoluteX _
  | .oraAbsoluteY _ | .oraIndirectX _ | .oraIndirectY _ => .ora
  | .eorImmediate _ | .eorZeroPage _ | .eorZeroPageX _ | .eorAbsolute _ | .eorAbsoluteX _
  | .eorAbsoluteY _ | .eorIndirectX _ | .eorIndirectY _ => .eor
  | .aslAccumulator | .aslZeroPage _ | .aslZeroPageX _ | .aslAbsolute _ | .aslAbsoluteX _ => .asl
  | .lsrAccumulator | .lsrZeroPage _ | .lsrZeroPageX _ | .lsrAbsolute _ | .lsrAbsoluteX _ => .lsr
  | .rolAccumulator | .rolZeroPage _ | .rolZeroPageX _ | .rolAbsolute _ | .rolAbsoluteX _ => .rol
  | .rorAccumulator | .rorZeroPage _ | .rorZeroPageX _ | .rorAbsolute _ | .rorAbsoluteX _ => .ror
  | .incZeroPage _ | .incZeroPageX _ | .incAbsolute _ | .incAbsoluteX _ => .inc
  | .decZeroPage _ | .decZeroPageX _ | .decAbsolute _ | .decAbsoluteX _ => .dec
  | .inx => .inx
  | .dex => .dex
  | .iny => .iny
  | .dey => .dey
  | .cmpImmediate _ | .cmpZeroPage _ | .cmpZeroPageX _ | .cmpAbsolute _ | .cmpAbsoluteX _
  | .cmpAbsoluteY _ | .cmpIndirectX _ | .cmpIndirectY _ => .cmp
  | .cpxImmediate _ | .cpxZeroPage _ | .cpxAbsolute _ => .cpx
  | .cpyImmediate _ | .cpyZeroPage _ | .cpyAbsolute _ => .cpy
  | .bitZeroPage _ | .bitAbsolute _ => .bit
  | .bcc _ => .bcc
  | .bcs _ => .bcs
  | .beq _ => .beq
  | .bne _ => .bne
  | .bmi _ => .bmi
  | .bpl _ => .bpl
  | .bvc _ => .bvc
  | .bvs _ => .bvs
  | .jmpAbsolute _ | .jmpIndirect _ => .jmp
  | .jsr _ => .jsr
  | .rts => .rts
  | .pha => .pha
  | .pla => .pla
  | .php => .php
  | .plp => .plp
  | .sec => .sec
  | .clc => .clc
  | .sei => .sei
  | .cli => .cli
  | .sed => .sed
  | .cld => .cld
  | .clv => .clv
  | .nop => .nop
  | .brk => .brk

/-- The operand of an instruction; none for the operand-less modes implied and accumulator (R101, R102). -/
def Instr.operand : Instr → Option Operand
  | .ldaImmediate n | .ldxImmediate n | .ldyImmediate n | .adcImmediate n | .sbcImmediate n
  | .andImmediate n | .oraImmediate n | .eorImmediate n | .cmpImmediate n | .cpxImmediate n
  | .cpyImmediate n => some (.immediate n)
  | .ldaZeroPage n | .ldxZeroPage n | .ldyZeroPage n | .staZeroPage n | .stxZeroPage n
  | .styZeroPage n | .adcZeroPage n | .sbcZeroPage n | .andZeroPage n | .oraZeroPage n
  | .eorZeroPage n | .aslZeroPage n | .lsrZeroPage n | .rolZeroPage n | .rorZeroPage n
  | .incZeroPage n | .decZeroPage n | .cmpZeroPage n | .cpxZeroPage n | .cpyZeroPage n
  | .bitZeroPage n => some (.zeroPage n)
  | .ldaZeroPageX n | .ldyZeroPageX n | .staZeroPageX n | .styZeroPageX n | .adcZeroPageX n
  | .sbcZeroPageX n | .andZeroPageX n | .oraZeroPageX n | .eorZeroPageX n | .aslZeroPageX n
  | .lsrZeroPageX n | .rolZeroPageX n | .rorZeroPageX n | .incZeroPageX n | .decZeroPageX n
  | .cmpZeroPageX n => some (.zeroPageX n)
  | .ldxZeroPageY n | .stxZeroPageY n => some (.zeroPageY n)
  | .ldaAbsolute w | .ldxAbsolute w | .ldyAbsolute w | .staAbsolute w | .stxAbsolute w
  | .styAbsolute w | .adcAbsolute w | .sbcAbsolute w | .andAbsolute w | .oraAbsolute w
  | .eorAbsolute w | .aslAbsolute w | .lsrAbsolute w | .rolAbsolute w | .rorAbsolute w
  | .incAbsolute w | .decAbsolute w | .cmpAbsolute w | .cpxAbsolute w | .cpyAbsolute w
  | .bitAbsolute w | .jmpAbsolute w | .jsr w => some (.absolute w)
  | .ldaAbsoluteX w | .ldyAbsoluteX w | .staAbsoluteX w | .adcAbsoluteX w | .sbcAbsoluteX w
  | .andAbsoluteX w | .oraAbsoluteX w | .eorAbsoluteX w | .aslAbsoluteX w | .lsrAbsoluteX w
  | .rolAbsoluteX w | .rorAbsoluteX w | .incAbsoluteX w | .decAbsoluteX w | .cmpAbsoluteX w => some (.absoluteX w)
  | .ldaAbsoluteY w | .ldxAbsoluteY w | .staAbsoluteY w | .adcAbsoluteY w | .sbcAbsoluteY w
  | .andAbsoluteY w | .oraAbsoluteY w | .eorAbsoluteY w | .cmpAbsoluteY w => some (.absoluteY w)
  | .jmpIndirect w => some (.indirect w)
  | .ldaIndirectX n | .staIndirectX n | .adcIndirectX n | .sbcIndirectX n | .andIndirectX n
  | .oraIndirectX n | .eorIndirectX n | .cmpIndirectX n => some (.indirectX n)
  | .ldaIndirectY n | .staIndirectY n | .adcIndirectY n | .sbcIndirectY n | .andIndirectY n
  | .oraIndirectY n | .eorIndirectY n | .cmpIndirectY n => some (.indirectY n)
  | .bcc d | .bcs d | .beq d | .bne d | .bmi d | .bpl d | .bvc d | .bvs d => some (.relative d)
  | .tax | .txa | .tay | .tya | .tsx | .txs | .aslAccumulator | .lsrAccumulator | .rolAccumulator
  | .rorAccumulator | .inx | .dex | .iny | .dey | .rts | .pha | .pla | .php | .plp | .sec | .clc
  | .sei | .cli | .sed | .cld | .clv | .nop | .brk => none

/-- The addressing mode of an instruction (the column of R66). -/
def Instr.mode : Instr → Mode
  | .tax | .txa | .tay | .tya | .tsx | .txs | .inx | .dex | .iny | .dey | .rts | .pha | .pla | .php
  | .plp | .sec | .clc | .sei | .cli | .sed | .cld | .clv | .nop | .brk => .implied
  | .aslAccumulator | .lsrAccumulator | .rolAccumulator | .rorAccumulator => .accumulator
  | .ldaImmediate _ | .ldxImmediate _ | .ldyImmediate _ | .adcImmediate _ | .sbcImmediate _
  | .andImmediate _ | .oraImmediate _ | .eorImmediate _ | .cmpImmediate _ | .cpxImmediate _
  | .cpyImmediate _ => .immediate
  | .ldaZeroPage _ | .ldxZeroPage _ | .ldyZeroPage _ | .staZeroPage _ | .stxZeroPage _
  | .styZeroPage _ | .adcZeroPage _ | .sbcZeroPage _ | .andZeroPage _ | .oraZeroPage _
  | .eorZeroPage _ | .aslZeroPage _ | .lsrZeroPage _ | .rolZeroPage _ | .rorZeroPage _
  | .incZeroPage _ | .decZeroPage _ | .cmpZeroPage _ | .cpxZeroPage _ | .cpyZeroPage _
  | .bitZeroPage _ => .zeroPage
  | .ldaZeroPageX _ | .ldyZeroPageX _ | .staZeroPageX _ | .styZeroPageX _ | .adcZeroPageX _
  | .sbcZeroPageX _ | .andZeroPageX _ | .oraZeroPageX _ | .eorZeroPageX _ | .aslZeroPageX _
  | .lsrZeroPageX _ | .rolZeroPageX _ | .rorZeroPageX _ | .incZeroPageX _ | .decZeroPageX _
  | .cmpZeroPageX _ => .zeroPageX
  | .ldxZeroPageY _ | .stxZeroPageY _ => .zeroPageY
  | .ldaAbsolute _ | .ldxAbsolute _ | .ldyAbsolute _ | .staAbsolute _ | .stxAbsolute _
  | .styAbsolute _ | .adcAbsolute _ | .sbcAbsolute _ | .andAbsolute _ | .oraAbsolute _
  | .eorAbsolute _ | .aslAbsolute _ | .lsrAbsolute _ | .rolAbsolute _ | .rorAbsolute _
  | .incAbsolute _ | .decAbsolute _ | .cmpAbsolute _ | .cpxAbsolute _ | .cpyAbsolute _
  | .bitAbsolute _ | .jmpAbsolute _ | .jsr _ => .absolute
  | .ldaAbsoluteX _ | .ldyAbsoluteX _ | .staAbsoluteX _ | .adcAbsoluteX _ | .sbcAbsoluteX _
  | .andAbsoluteX _ | .oraAbsoluteX _ | .eorAbsoluteX _ | .aslAbsoluteX _ | .lsrAbsoluteX _
  | .rolAbsoluteX _ | .rorAbsoluteX _ | .incAbsoluteX _ | .decAbsoluteX _ | .cmpAbsoluteX _ => .absoluteX
  | .ldaAbsoluteY _ | .ldxAbsoluteY _ | .staAbsoluteY _ | .adcAbsoluteY _ | .sbcAbsoluteY _
  | .andAbsoluteY _ | .oraAbsoluteY _ | .eorAbsoluteY _ | .cmpAbsoluteY _ => .absoluteY
  | .jmpIndirect _ => .indirect
  | .ldaIndirectX _ | .staIndirectX _ | .adcIndirectX _ | .sbcIndirectX _ | .andIndirectX _
  | .oraIndirectX _ | .eorIndirectX _ | .cmpIndirectX _ => .indirectX
  | .ldaIndirectY _ | .staIndirectY _ | .adcIndirectY _ | .sbcIndirectY _ | .andIndirectY _
  | .oraIndirectY _ | .eorIndirectY _ | .cmpIndirectY _ => .indirectY
  | .bcc _ | .bcs _ | .beq _ | .bne _ | .bmi _ | .bpl _ | .bvc _ | .bvs _ => .relative

end Sys2Proof
end

