-- ==== Sys2Proof/WellFormed.lean ====
section
/-! DEFINITION. Well-formedness: which combinations of a mnemonic and an addressing mode exist. Operand bytes and
words have no illegal value (30_encoding.md R71) and their types already bound them, so the one check an
instruction must pass is that its mnemonic and mode are a cell of the opcode table (R66: "an empty cell means the
combination does not exist"). -/

namespace Sys2Proof

/-- The modes each mnemonic exists in, row by row of the table of R66. -/
def Mnemonic.modes : Mnemonic → List Mode
  | .lda | .adc | .sbc | .and | .ora | .eor | .cmp => [.immediate, .zeroPage, .zeroPageX, .absolute, .absoluteX, .absoluteY, .indirectX, .indirectY]
  | .ldx => [.immediate, .zeroPage, .zeroPageY, .absolute, .absoluteY]
  | .ldy => [.immediate, .zeroPage, .zeroPageX, .absolute, .absoluteX]
  | .sta => [.zeroPage, .zeroPageX, .absolute, .absoluteX, .absoluteY, .indirectX, .indirectY]
  | .stx => [.zeroPage, .zeroPageY, .absolute]
  | .sty => [.zeroPage, .zeroPageX, .absolute]
  | .tax | .txa | .tay | .tya | .tsx | .txs | .inx | .dex | .iny | .dey | .rts | .pha | .pla | .php
  | .plp | .sec | .clc | .sei | .cli | .sed | .cld | .clv | .nop | .brk => [.implied]
  | .asl | .lsr | .rol | .ror => [.accumulator, .zeroPage, .zeroPageX, .absolute, .absoluteX]
  | .inc | .dec => [.zeroPage, .zeroPageX, .absolute, .absoluteX]
  | .cpx | .cpy => [.immediate, .zeroPage, .absolute]
  | .bit => [.zeroPage, .absolute]
  | .bcc | .bcs | .beq | .bne | .bmi | .bpl | .bvc | .bvs => [.relative]
  | .jmp => [.absolute, .indirect]
  | .jsr => [.absolute]

/-- The cell of R66 for a mnemonic and a mode is filled. -/
def cellExists (m : Mnemonic) (mode : Mode) : Bool := decide (mode ∈ m.modes)

/-- The operand an instruction carries is an operand of its mode: none for implied and accumulator (R101, R102). -/
def operandFits (mode : Mode) (operand : Option Operand) : Bool :=
  match operand with
  | some o => decide (o.mode = mode)
  | none => decide (mode = .implied ∨ mode = .accumulator)

/-- The check of an instruction: its mnemonic and its mode are a filled cell of R66, and its operand fits its mode. -/
def Instr.wellFormed (i : Instr) : Bool := cellExists i.mnemonic i.mode && operandFits i.mode i.operand

end Sys2Proof
end

