-- ==== Sys2Proof/Decode.lean ====
section
/-! DEFINITION. The decoder and the encoder (30_encoding.md R60 to R70). The opcode byte alone selects the
instruction and its length (R60, R64); operand words are little-endian (R63, R65). The decoder is total: it rejects
by name a byte that has no table entry (R69) and a byte list that ends inside an instruction. -/

namespace Sys2Proof

/-- Why a list of bytes decodes to no instruction. -/
inductive DecodeError where
  /-- There is no opcode byte. -/
  | noBytes
  /-- The opcode byte is one of the 106 with no table entry (R69). -/
  | unassigned (opcode : Byte)
  /-- The list ends before the operand bytes the opcode's format asks for (R62, R63). -/
  | truncated (opcode : Byte)
  deriving DecidableEq, Repr

/-- An instruction still waiting for its operand: format F1, F2 or F3 (R61, R62, R63). -/
inductive Shape where
  | f1 (i : Instr)
  | f2 (build : Byte → Instr)
  | f3 (build : Word → Instr)

/-- The number of operand bytes after the opcode byte (R61 to R63). -/
def Shape.operandBytes : Shape → Nat
  | .f1 _ => 0
  | .f2 _ => 1
  | .f3 _ => 2

/-- The instruction of a shape, given the two bytes after the opcode byte; F1 uses neither, F2 the first only, F3
both, the first being the low byte (R65). -/
def Shape.complete : Shape → Byte → Byte → Instr
  | .f1 i, _, _ => i
  | .f2 build, b1, _ => build b1
  | .f3 build, b1, b2 => build (wordOfBytes b2 b1)

/-- Row 0x of the opcode matrix of R67. -/
def matrixRow0 : List (Byte × Shape) :=
  [(0x00, .f1 .brk), (0x01, .f2 .oraIndirectX), (0x05, .f2 .oraZeroPage), (0x06, .f2 .aslZeroPage),
   (0x08, .f1 .php), (0x09, .f2 .oraImmediate), (0x0A, .f1 .aslAccumulator), (0x0D, .f3 .oraAbsolute),
   (0x0E, .f3 .aslAbsolute)]

/-- Row 1x of the opcode matrix of R67. -/
def matrixRow1 : List (Byte × Shape) :=
  [(0x10, .f2 .bpl), (0x11, .f2 .oraIndirectY), (0x15, .f2 .oraZeroPageX), (0x16, .f2 .aslZeroPageX),
   (0x18, .f1 .clc), (0x19, .f3 .oraAbsoluteY), (0x1D, .f3 .oraAbsoluteX), (0x1E, .f3 .aslAbsoluteX)]

/-- Row 2x of the opcode matrix of R67. -/
def matrixRow2 : List (Byte × Shape) :=
  [(0x20, .f3 .jsr), (0x21, .f2 .andIndirectX), (0x24, .f2 .bitZeroPage), (0x25, .f2 .andZeroPage),
   (0x26, .f2 .rolZeroPage), (0x28, .f1 .plp), (0x29, .f2 .andImmediate), (0x2A, .f1 .rolAccumulator),
   (0x2C, .f3 .bitAbsolute), (0x2D, .f3 .andAbsolute), (0x2E, .f3 .rolAbsolute)]

/-- Row 3x of the opcode matrix of R67. -/
def matrixRow3 : List (Byte × Shape) :=
  [(0x30, .f2 .bmi), (0x31, .f2 .andIndirectY), (0x35, .f2 .andZeroPageX), (0x36, .f2 .rolZeroPageX),
   (0x38, .f1 .sec), (0x39, .f3 .andAbsoluteY), (0x3D, .f3 .andAbsoluteX), (0x3E, .f3 .rolAbsoluteX)]

/-- Row 4x of the opcode matrix of R67. -/
def matrixRow4 : List (Byte × Shape) :=
  [(0x41, .f2 .eorIndirectX), (0x45, .f2 .eorZeroPage), (0x46, .f2 .lsrZeroPage), (0x48, .f1 .pha),
   (0x49, .f2 .eorImmediate), (0x4A, .f1 .lsrAccumulator), (0x4C, .f3 .jmpAbsolute),
   (0x4D, .f3 .eorAbsolute), (0x4E, .f3 .lsrAbsolute)]

/-- Row 5x of the opcode matrix of R67. -/
def matrixRow5 : List (Byte × Shape) :=
  [(0x50, .f2 .bvc), (0x51, .f2 .eorIndirectY), (0x55, .f2 .eorZeroPageX), (0x56, .f2 .lsrZeroPageX),
   (0x58, .f1 .cli), (0x59, .f3 .eorAbsoluteY), (0x5D, .f3 .eorAbsoluteX), (0x5E, .f3 .lsrAbsoluteX)]

/-- Row 6x of the opcode matrix of R67. -/
def matrixRow6 : List (Byte × Shape) :=
  [(0x60, .f1 .rts), (0x61, .f2 .adcIndirectX), (0x65, .f2 .adcZeroPage), (0x66, .f2 .rorZeroPage),
   (0x68, .f1 .pla), (0x69, .f2 .adcImmediate), (0x6A, .f1 .rorAccumulator), (0x6C, .f3 .jmpIndirect),
   (0x6D, .f3 .adcAbsolute), (0x6E, .f3 .rorAbsolute)]

/-- Row 7x of the opcode matrix of R67. -/
def matrixRow7 : List (Byte × Shape) :=
  [(0x70, .f2 .bvs), (0x71, .f2 .adcIndirectY), (0x75, .f2 .adcZeroPageX), (0x76, .f2 .rorZeroPageX),
   (0x78, .f1 .sei), (0x79, .f3 .adcAbsoluteY), (0x7D, .f3 .adcAbsoluteX), (0x7E, .f3 .rorAbsoluteX)]

/-- Row 8x of the opcode matrix of R67. -/
def matrixRow8 : List (Byte × Shape) :=
  [(0x81, .f2 .staIndirectX), (0x84, .f2 .styZeroPage), (0x85, .f2 .staZeroPage), (0x86, .f2 .stxZeroPage),
   (0x88, .f1 .dey), (0x8A, .f1 .txa), (0x8C, .f3 .styAbsolute), (0x8D, .f3 .staAbsolute),
   (0x8E, .f3 .stxAbsolute)]

/-- Row 9x of the opcode matrix of R67. -/
def matrixRow9 : List (Byte × Shape) :=
  [(0x90, .f2 .bcc), (0x91, .f2 .staIndirectY), (0x94, .f2 .styZeroPageX), (0x95, .f2 .staZeroPageX),
   (0x96, .f2 .stxZeroPageY), (0x98, .f1 .tya), (0x99, .f3 .staAbsoluteY), (0x9A, .f1 .txs),
   (0x9D, .f3 .staAbsoluteX)]

/-- Row Ax of the opcode matrix of R67. -/
def matrixRowA : List (Byte × Shape) :=
  [(0xA0, .f2 .ldyImmediate), (0xA1, .f2 .ldaIndirectX), (0xA2, .f2 .ldxImmediate),
   (0xA4, .f2 .ldyZeroPage), (0xA5, .f2 .ldaZeroPage), (0xA6, .f2 .ldxZeroPage), (0xA8, .f1 .tay),
   (0xA9, .f2 .ldaImmediate), (0xAA, .f1 .tax), (0xAC, .f3 .ldyAbsolute), (0xAD, .f3 .ldaAbsolute),
   (0xAE, .f3 .ldxAbsolute)]

/-- Row Bx of the opcode matrix of R67. -/
def matrixRowB : List (Byte × Shape) :=
  [(0xB0, .f2 .bcs), (0xB1, .f2 .ldaIndirectY), (0xB4, .f2 .ldyZeroPageX), (0xB5, .f2 .ldaZeroPageX),
   (0xB6, .f2 .ldxZeroPageY), (0xB8, .f1 .clv), (0xB9, .f3 .ldaAbsoluteY), (0xBA, .f1 .tsx),
   (0xBC, .f3 .ldyAbsoluteX), (0xBD, .f3 .ldaAbsoluteX), (0xBE, .f3 .ldxAbsoluteY)]

/-- Row Cx of the opcode matrix of R67. -/
def matrixRowC : List (Byte × Shape) :=
  [(0xC0, .f2 .cpyImmediate), (0xC1, .f2 .cmpIndirectX), (0xC4, .f2 .cpyZeroPage),
   (0xC5, .f2 .cmpZeroPage), (0xC6, .f2 .decZeroPage), (0xC8, .f1 .iny), (0xC9, .f2 .cmpImmediate),
   (0xCA, .f1 .dex), (0xCC, .f3 .cpyAbsolute), (0xCD, .f3 .cmpAbsolute), (0xCE, .f3 .decAbsolute)]

/-- Row Dx of the opcode matrix of R67. -/
def matrixRowD : List (Byte × Shape) :=
  [(0xD0, .f2 .bne), (0xD1, .f2 .cmpIndirectY), (0xD5, .f2 .cmpZeroPageX), (0xD6, .f2 .decZeroPageX),
   (0xD8, .f1 .cld), (0xD9, .f3 .cmpAbsoluteY), (0xDD, .f3 .cmpAbsoluteX), (0xDE, .f3 .decAbsoluteX)]

/-- Row Ex of the opcode matrix of R67. -/
def matrixRowE : List (Byte × Shape) :=
  [(0xE0, .f2 .cpxImmediate), (0xE1, .f2 .sbcIndirectX), (0xE4, .f2 .cpxZeroPage),
   (0xE5, .f2 .sbcZeroPage), (0xE6, .f2 .incZeroPage), (0xE8, .f1 .inx), (0xE9, .f2 .sbcImmediate),
   (0xEA, .f1 .nop), (0xEC, .f3 .cpxAbsolute), (0xED, .f3 .sbcAbsolute), (0xEE, .f3 .incAbsolute)]

/-- Row Fx of the opcode matrix of R67. -/
def matrixRowF : List (Byte × Shape) :=
  [(0xF0, .f2 .beq), (0xF1, .f2 .sbcIndirectY), (0xF5, .f2 .sbcZeroPageX), (0xF6, .f2 .incZeroPageX),
   (0xF8, .f1 .sed), (0xF9, .f3 .sbcAbsoluteY), (0xFD, .f3 .sbcAbsoluteX), (0xFE, .f3 .incAbsoluteX)]

/-- The opcode table: 150 entries (R66, R67). -/
def opcodeTable : List (Byte × Shape) :=
  matrixRow0 ++ matrixRow1 ++ matrixRow2 ++ matrixRow3 ++ matrixRow4 ++ matrixRow5 ++ matrixRow6 ++ matrixRow7 ++
  matrixRow8 ++ matrixRow9 ++ matrixRowA ++ matrixRowB ++ matrixRowC ++ matrixRowD ++ matrixRowE ++ matrixRowF

/-- The entry of an opcode byte in a table, if it has one. -/
def findShape : List (Byte × Shape) → Byte → Option Shape
  | [], _ => none
  | (code, shape) :: rest, opcode => if opcode = code then some shape else findShape rest opcode

/-- The matrix row of a high nibble (R67). -/
def matrixRow : Nat → List (Byte × Shape)
  | 0 => matrixRow0
  | 1 => matrixRow1
  | 2 => matrixRow2
  | 3 => matrixRow3
  | 4 => matrixRow4
  | 5 => matrixRow5
  | 6 => matrixRow6
  | 7 => matrixRow7
  | 8 => matrixRow8
  | 9 => matrixRow9
  | 10 => matrixRowA
  | 11 => matrixRowB
  | 12 => matrixRowC
  | 13 => matrixRowD
  | 14 => matrixRowE
  | 15 => matrixRowF
  | _ => []

/-- `Table[opc]` of 40_engine_step.md R82: the entry of an opcode byte, or none for the 106 bytes of R69. The row is
the one of the byte's high nibble, the only row that can hold it. -/
def opcodeShape (opcode : Byte) : Option Shape := findShape (matrixRow (opcode.toNat / 16)) opcode

/-- The instruction at an opcode byte followed by two more bytes, of which it may use none, one or both; none where
the opcode byte has no table entry. This is what the engine's step decodes with. -/
def decodeWindow (b0 b1 b2 : Byte) : Option Instr :=
  (opcodeShape b0).map fun shape => shape.complete b1 b2

/-- The instruction at the head of a list of bytes, and the bytes after it. -/
def decode : List Byte → Except DecodeError (Instr × List Byte)
  | [] => .error .noBytes
  | b0 :: rest =>
    match opcodeShape b0 with
    | none => .error (.unassigned b0)
    | some shape =>
      if rest.length < shape.operandBytes then .error (.truncated b0)
      else .ok (shape.complete (rest.getD 0 0) (rest.getD 1 0), rest.drop shape.operandBytes)

/-- The opcode byte of each instruction, from the columns of R66. -/
def Instr.opcode : Instr → Byte
  | .ldaImmediate _ => 0xA9
  | .ldaZeroPage _ => 0xA5
  | .ldaZeroPageX _ => 0xB5
  | .ldaAbsolute _ => 0xAD
  | .ldaAbsoluteX _ => 0xBD
  | .ldaAbsoluteY _ => 0xB9
  | .ldaIndirectX _ => 0xA1
  | .ldaIndirectY _ => 0xB1
  | .ldxImmediate _ => 0xA2
  | .ldxZeroPage _ => 0xA6
  | .ldxZeroPageY _ => 0xB6
  | .ldxAbsolute _ => 0xAE
  | .ldxAbsoluteY _ => 0xBE
  | .ldyImmediate _ => 0xA0
  | .ldyZeroPage _ => 0xA4
  | .ldyZeroPageX _ => 0xB4
  | .ldyAbsolute _ => 0xAC
  | .ldyAbsoluteX _ => 0xBC
  | .staZeroPage _ => 0x85
  | .staZeroPageX _ => 0x95
  | .staAbsolute _ => 0x8D
  | .staAbsoluteX _ => 0x9D
  | .staAbsoluteY _ => 0x99
  | .staIndirectX _ => 0x81
  | .staIndirectY _ => 0x91
  | .stxZeroPage _ => 0x86
  | .stxZeroPageY _ => 0x96
  | .stxAbsolute _ => 0x8E
  | .styZeroPage _ => 0x84
  | .styZeroPageX _ => 0x94
  | .styAbsolute _ => 0x8C
  | .tax => 0xAA
  | .txa => 0x8A
  | .tay => 0xA8
  | .tya => 0x98
  | .tsx => 0xBA
  | .txs => 0x9A
  | .adcImmediate _ => 0x69
  | .adcZeroPage _ => 0x65
  | .adcZeroPageX _ => 0x75
  | .adcAbsolute _ => 0x6D
  | .adcAbsoluteX _ => 0x7D
  | .adcAbsoluteY _ => 0x79
  | .adcIndirectX _ => 0x61
  | .adcIndirectY _ => 0x71
  | .sbcImmediate _ => 0xE9
  | .sbcZeroPage _ => 0xE5
  | .sbcZeroPageX _ => 0xF5
  | .sbcAbsolute _ => 0xED
  | .sbcAbsoluteX _ => 0xFD
  | .sbcAbsoluteY _ => 0xF9
  | .sbcIndirectX _ => 0xE1
  | .sbcIndirectY _ => 0xF1
  | .andImmediate _ => 0x29
  | .andZeroPage _ => 0x25
  | .andZeroPageX _ => 0x35
  | .andAbsolute _ => 0x2D
  | .andAbsoluteX _ => 0x3D
  | .andAbsoluteY _ => 0x39
  | .andIndirectX _ => 0x21
  | .andIndirectY _ => 0x31
  | .oraImmediate _ => 0x09
  | .oraZeroPage _ => 0x05
  | .oraZeroPageX _ => 0x15
  | .oraAbsolute _ => 0x0D
  | .oraAbsoluteX _ => 0x1D
  | .oraAbsoluteY _ => 0x19
  | .oraIndirectX _ => 0x01
  | .oraIndirectY _ => 0x11
  | .eorImmediate _ => 0x49
  | .eorZeroPage _ => 0x45
  | .eorZeroPageX _ => 0x55
  | .eorAbsolute _ => 0x4D
  | .eorAbsoluteX _ => 0x5D
  | .eorAbsoluteY _ => 0x59
  | .eorIndirectX _ => 0x41
  | .eorIndirectY _ => 0x51
  | .aslAccumulator => 0x0A
  | .aslZeroPage _ => 0x06
  | .aslZeroPageX _ => 0x16
  | .aslAbsolute _ => 0x0E
  | .aslAbsoluteX _ => 0x1E
  | .lsrAccumulator => 0x4A
  | .lsrZeroPage _ => 0x46
  | .lsrZeroPageX _ => 0x56
  | .lsrAbsolute _ => 0x4E
  | .lsrAbsoluteX _ => 0x5E
  | .rolAccumulator => 0x2A
  | .rolZeroPage _ => 0x26
  | .rolZeroPageX _ => 0x36
  | .rolAbsolute _ => 0x2E
  | .rolAbsoluteX _ => 0x3E
  | .rorAccumulator => 0x6A
  | .rorZeroPage _ => 0x66
  | .rorZeroPageX _ => 0x76
  | .rorAbsolute _ => 0x6E
  | .rorAbsoluteX _ => 0x7E
  | .incZeroPage _ => 0xE6
  | .incZeroPageX _ => 0xF6
  | .incAbsolute _ => 0xEE
  | .incAbsoluteX _ => 0xFE
  | .decZeroPage _ => 0xC6
  | .decZeroPageX _ => 0xD6
  | .decAbsolute _ => 0xCE
  | .decAbsoluteX _ => 0xDE
  | .inx => 0xE8
  | .dex => 0xCA
  | .iny => 0xC8
  | .dey => 0x88
  | .cmpImmediate _ => 0xC9
  | .cmpZeroPage _ => 0xC5
  | .cmpZeroPageX _ => 0xD5
  | .cmpAbsolute _ => 0xCD
  | .cmpAbsoluteX _ => 0xDD
  | .cmpAbsoluteY _ => 0xD9
  | .cmpIndirectX _ => 0xC1
  | .cmpIndirectY _ => 0xD1
  | .cpxImmediate _ => 0xE0
  | .cpxZeroPage _ => 0xE4
  | .cpxAbsolute _ => 0xEC
  | .cpyImmediate _ => 0xC0
  | .cpyZeroPage _ => 0xC4
  | .cpyAbsolute _ => 0xCC
  | .bitZeroPage _ => 0x24
  | .bitAbsolute _ => 0x2C
  | .bcc _ => 0x90
  | .bcs _ => 0xB0
  | .beq _ => 0xF0
  | .bne _ => 0xD0
  | .bmi _ => 0x30
  | .bpl _ => 0x10
  | .bvc _ => 0x50
  | .bvs _ => 0x70
  | .jmpAbsolute _ => 0x4C
  | .jmpIndirect _ => 0x6C
  | .jsr _ => 0x20
  | .rts => 0x60
  | .pha => 0x48
  | .pla => 0x68
  | .php => 0x08
  | .plp => 0x28
  | .sec => 0x38
  | .clc => 0x18
  | .sei => 0x78
  | .cli => 0x58
  | .sed => 0xF8
  | .cld => 0xD8
  | .clv => 0xB8
  | .nop => 0xEA
  | .brk => 0x00

/-- The operand bytes of an operand, in address order (R62, R63). -/
def Operand.bytes : Operand → List Byte
  | .immediate n | .zeroPage n | .zeroPageX n | .zeroPageY n | .indirectX n | .indirectY n | .relative n => [n]
  | .absolute w | .absoluteX w | .absoluteY w | .indirect w => [lowByte w, highByte w]

/-- The bytes of an instruction, in address order (R60 to R63). -/
def encode (i : Instr) : List Byte :=
  i.opcode :: match i.operand with
    | some o => o.bytes
    | none => []

/-- The length of an instruction in bytes, a function of the addressing mode alone (R64). -/
def Mode.length : Mode → Nat
  | .implied | .accumulator => 1
  | .immediate | .zeroPage | .zeroPageX | .zeroPageY | .indirectX | .indirectY | .relative => 2
  | .absolute | .absoluteX | .absoluteY | .indirect => 3

/-- The length of an instruction in bytes: the `length` field of its descriptor (R64, R68). -/
def Instr.length (i : Instr) : Nat := i.mode.length

/-- Bits 0 to 23 of a number as three bytes, the first byte being bits 7 to 0; bits at or above `nbits` are 0. -/
def tableBytes (nbits w : Nat) : Byte × Byte × Byte :=
  let v := w % 2 ^ nbits
  (BitVec.ofNat 8 v, BitVec.ofNat 8 (v / 256), BitVec.ofNat 8 (v / 65536))

/-- The instruction the decoder reads from an instruction word as spec/opcode_table.json numbers its bits. -/
def decodeTableWord (nbits w : Nat) : Option Instr :=
  let (b0, b1, b2) := tableBytes nbits w
  decodeWindow b0 b1 b2

end Sys2Proof
end

