-- ==== Sys2Proof/Machine/Flags.lean ====
section
/-! DEFINITION. The status byte P and the flag unit (10_state.md R16 to R24). -/

namespace Sys2Proof.Machine

/-- The eight flags of P (R17): carry, zero, interrupt-disable, decimal, break, unused, overflow, negative. -/
inductive Flag where
  | c | z | i | d | b | u | v | n
  deriving DecidableEq, Repr

/-- The bit of P a flag stands in (the table of R17). -/
def flagBit : Flag → Nat
  | .c => 0
  | .z => 1
  | .i => 2
  | .d => 3
  | .b => 4
  | .u => 5
  | .v => 6
  | .n => 7

/-- The mask of a flag (the table of R17). -/
def flagMask (f : Flag) : Byte := 1 <<< flagBit f

/-- The is-set query of a flag in a packed status byte (R16). -/
def flagOf (p : Byte) (f : Flag) : Bool := p.getLsbD (flagBit f)

/-- The set and clear of one flag in a packed status byte (R16). -/
def withFlag (p : Byte) (f : Flag) (value : Bool) : Byte :=
  if value then p ||| flagMask f else p &&& ~~~flagMask f

/-- `SetZN(v)` on a packed status byte: Z from `v = 0`, N from `v[7]` (R22). -/
def withZN (p v : Byte) : Byte := withFlag (withFlag p .z (v == 0)) .n (v.getLsbD 7)

/-- `Ovf(a, b, r)`, the signed-overflow test: the operands share a sign and the result has the other (R23). -/
def ovf (a b r : Byte) : Bool := ((r ^^^ a) &&& (r ^^^ b) &&& 0x80) != 0

/-- What the adder answers. -/
structure AddResult where
  value : Byte
  carry : Bool
  overflow : Bool
  deriving DecidableEq, Repr

/-- The adder of 43_arithmetic_logic.md R140: the un-truncated sum, its low byte, carry exactly when it exceeds 255
(R21), overflow by R23. It is binary whatever the decimal flag holds (R24). -/
def addWithCarry (a b : Byte) (carryIn : Bool) : AddResult :=
  let sum := a.toNat + b.toNat + carryIn.toNat
  let r := BitVec.ofNat 8 sum
  { value := r, carry := decide (sum > 255), overflow := ovf a b r }

/-- The flags of a compare of a register with `m`: C from `reg >= m` unsigned (R21), Z and N from the 8-bit
difference (45_compare_bit.md R165). -/
def compareFlags (reg m p : Byte) : Byte :=
  withZN (withFlag p .c (decide (reg.toNat ≥ m.toNat))) (reg - m)

/-- What a read-modify-write operation makes of the old byte and of P. -/
structure RmwResult where
  value : Byte
  p : Byte
  deriving DecidableEq, Repr

end Sys2Proof.Machine
end

