-- ==== Sys2Proof/Config.lean ====
section
/-! DEFINITION. What an implementation fixes: the named parameters of 00_scope.md R6 as one record. The values the
model takes for them stand in Machine/Params.lean. -/

namespace Sys2Proof

/-- The number of addresses of the memory image (R5, 20_memory.md R40). -/
def memorySize : Nat := 65536

/-- The named parameters of R6. -/
structure Config where
  /-- `RESET_VECTOR`: address of the low byte of the reset vector. -/
  resetVector : Word
  /-- `STACK_BASE`: base address of the stack page. -/
  stackBase : Word
  /-- `SP_RESET`: the value `reset()` gives SP; open in the spec. -/
  spReset : Byte
  /-- `P_RESET`: the value `reset()` gives P. -/
  pReset : Byte
  /-- `MEM_INIT`, as far as one byte can say it: what an address the image does not list reads as. -/
  unlistedByte : Byte
  /-- `ZP_PTR_WRAP`: whether the high byte of a zero-page pointer at 0xFF comes from 0x0000. -/
  zpPtrWrap : Bool
  deriving DecidableEq, Repr

end Sys2Proof
end

