-- ==== Sys2Proof/Machine/Params.lean ====
section
/-! DEFINITION. The values of the named parameters (00_scope.md R6). RESET_VECTOR, STACK_BASE, P_RESET and
ZP_PTR_WRAP are the spec's decisions D2, D4, D31 and D13. SP_RESET and MEM_INIT are open in the spec. -/

namespace Sys2Proof.Machine

/-- The parameters of this machine. `spReset` is the spec's recommended default (DESIGN CHOICE, unsafe, log entry 2),
and `unlistedByte` is the model's choice (DESIGN CHOICE, unsafe, log entry 1). -/
def config : Config where
  resetVector := 0xFFFC
  stackBase := 0x0100
  spReset := 0xFD
  pReset := 0x24
  unlistedByte := 0x00
  zpPtrWrap := true

end Sys2Proof.Machine
end

