-- ==== Sys2Proof/Machine/Memory.lean ====
section
/-! DEFINITION. The memory image: a mapping from 16-bit address to byte, 64 KiB, all of it readable and writable
(20_memory.md R40, R42, R43), held as the list of its cells in one canonical form. -/

namespace Sys2Proof.Machine

/-- The image: its cells by address. An address the list does not hold reads as `config.unlistedByte`. -/
abbrev Memory := List Host.Cell

/-- The byte the image holds at an address. -/
def Memory.read : Memory → Nat → Byte
  | [], _ => config.unlistedByte
  | cell :: rest, a => if a = cell.1 then cell.2 else Memory.read rest a

/-- The image with no cell listed at an address. -/
def Memory.erase (m : Memory) (a : Nat) : Memory := m.filter fun cell => cell.1 != a

/-- The image with a cell put before the first cell of a higher address. -/
def Memory.insert : Memory → Nat → Byte → Memory
  | [], a, v => [(a, v)]
  | cell :: rest, a, v =>
    if a < cell.1 then (a, v) :: cell :: rest else cell :: Memory.insert rest a v

/-- The image after a byte write: `v` at `a`, unchanged elsewhere (R43). A cell that would say what an unlisted
address says anyway is left out. -/
def Memory.write (m : Memory) (a : Nat) (v : Byte) : Memory :=
  if v = config.unlistedByte then m.erase a else (m.erase a).insert a v

/-- The image whose bytes from an address on are the listed ones; a byte that would say what an unlisted address says
anyway is left out. -/
def Memory.ofBytes : Nat → List Byte → Memory
  | _, [] => []
  | base, v :: rest =>
    if v = config.unlistedByte then Memory.ofBytes (base + 1) rest
    else (base, v) :: Memory.ofBytes (base + 1) rest

/-- `MEM_INIT`, "a function u16 -> u8 supplied by the host" (00_scope.md R6), as an image: all 65,536 bytes of it. Irreducible, so that
no proof steps through them; Laws/Memory.lean says what it reads as. -/
@[irreducible] def Memory.ofImage (memInit : Word → Byte) : Memory :=
  Memory.ofBytes 0 ((List.range memorySize).map fun a => memInit (BitVec.ofNat 16 a))

/-- The canonical form: addresses strictly rising and inside the image, and no cell that says what an unlisted
address says. -/
abbrev Memory.wf (m : Memory) : Prop :=
  m.Pairwise (fun c d => c.1 < d.1) ∧ ∀ c ∈ m, c.1 < memorySize ∧ c.2 ≠ config.unlistedByte

end Sys2Proof.Machine
end

