-- ==== Sys2Proof/Machine/State.lean ====
section
/-! DEFINITION. The machine's state (10_state.md: "The whole state of the engine"), the reasons a step can stop, and
the state after reset. -/

namespace Sys2Proof.Machine

/-- `raise OutOfRange(a)`: the one fault of this hardware, with the offending address it records
(60_exceptions.md R220, R221). -/
structure OutOfRange where
  address : Nat
  deriving DecidableEq, Repr

/-- The run state (10_state.md R32): Running, Halted, and Faulted, the condition after an OutOfRange fault
(60_exceptions.md R222). -/
inductive RunState where
  | running
  | halted
  | faulted (e : OutOfRange)
  deriving DecidableEq, Repr

/-- Everything the spec gives the machine: the registers (R10, R13, R16, R26), the run state (R32) and the memory
image, which the host owns and the engine borrows (20_memory.md R40). -/
structure State where
  a : Byte
  x : Byte
  y : Byte
  sp : Byte
  p : Byte
  pc : Word
  runState : RunState
  memory : Memory
  deriving DecidableEq, Repr

/-- Why no step is defined in a state. Both are safe: the spec defines no step there (40_engine_step.md R80). -/
inductive Fault where
  /-- Raised by `step` in run state Halted, which is terminal until `reset()` (R83, U21). Safe. -/
  | stuckHalted
  /-- Raised by `step` in run state Faulted, which is terminal until `reset()` (R223, U21). Safe. -/
  | stuckFaulted (e : OutOfRange)
  deriving DecidableEq, Repr

/-- Why the model gives no meaning. -/
inductive Refusal where
  /-- Raised by `exec` for an instruction the model gives no meaning to, by its mnemonic. Safe. No instruction of
  this model is left so. -/
  | notModelled (mnemonic : String)
  deriving DecidableEq, Repr

/-- The state right after `reset()`, with the spec's two open parameters as arguments: `SP_RESET` and the image the
host hands over, which `reset()` leaves as it is (10_state.md R36, 70_reset_and_hazards.md R245, R246, R247). PC is the
little-endian word at the reset vector of that image. -/
def State.afterReset (spReset : Byte) (image : Memory) : State where
  a := 0x00
  x := 0x00
  y := 0x00
  sp := spReset
  p := config.pReset
  pc := wordOfBytes (image.read (config.resetVector + 1).toNat) (image.read config.resetVector.toNat)
  runState := .running
  memory := image

/-- The one state after reset that the host's interface asks for: `SP_RESET` is `config.spReset` (DESIGN CHOICE, log
entry 2) and the image lists nothing (DESIGN CHOICE, log entry 1), so that PC follows from that image (log entry 3).
A claim about the machine starts from `State.afterReset` with any image, or from `launch`. -/
def State.reset : State := State.afterReset config.spReset []

end Sys2Proof.Machine
end

