-- ==== Sys2Proof/Machine/Ops.lean ====
section
/-! DEFINITION. The named operations over registers, flags, memory and stack, the fetch, the advance of PC, the halt,
taking the OutOfRange fault and the one way back from it, `reset()`. -/

namespace Sys2Proof.Machine

/-- What a step or a meaning answers. -/
abbrev Result := Host.Outcome State Fault Refusal

-- Register writes (10_state.md R10, R13, R16, R26).

/-- `A <- v`. -/
def State.setA (s : State) (v : Byte) : State := { s with a := v }

/-- `X <- v`. -/
def State.setX (s : State) (v : Byte) : State := { s with x := v }

/-- `Y <- v`. -/
def State.setY (s : State) (v : Byte) : State := { s with y := v }

/-- `SP <- v`. -/
def State.setSP (s : State) (v : Byte) : State := { s with sp := v }

/-- `P <- v`, the raw set of the packed byte (R16). -/
def State.setP (s : State) (v : Byte) : State := { s with p := v }

/-- `PC <- v`. -/
def State.setPC (s : State) (v : Word) : State := { s with pc := v }

/-- `runstate <- r`. -/
def State.setRunState (s : State) (r : RunState) : State := { s with runState := r }

/-- The memory image replaced. -/
def State.setMemory (s : State) (m : Memory) : State := { s with memory := m }

-- Flags (10_state.md R16, R22).

/-- `P.f`, one flag of P. -/
def State.flag (s : State) (f : Flag) : Bool := flagOf s.p f

/-- `P.f <- value`. -/
def State.setFlag (s : State) (f : Flag) (value : Bool) : State := s.setP (withFlag s.p f value)

/-- `SetZN(v)` (R22). -/
def State.setZN (s : State) (v : Byte) : State := s.setP (withZN s.p v)

-- Bus transactions (20_memory.md R41).

/-- `MemRead(addr, 1)`: never fails, no side effect (R42). -/
def State.readByte (s : State) (addr : Word) : Byte := s.memory.read addr.toNat

/-- `MemWrite(addr, 1, v)`: never fails (R43). -/
def State.writeByte (s : State) (addr : Word) (v : Byte) : State :=
  s.setMemory (s.memory.write addr.toNat v)

/-- The range check of a word access: its second byte must lie inside the image, which fails only at 0xFFFF, with
the offending address 0x10000 (R44). -/
def checkWordRange (addr : Word) : Except OutOfRange Unit :=
  if addr.toNat + 1 < memorySize then .ok () else .error ⟨addr.toNat + 1⟩

/-- `MemRead(addr, 2)`: the range check first, then the little-endian word (R44, R45). -/
def State.readWord (s : State) (addr : Word) : Except OutOfRange Word :=
  (checkWordRange addr).map fun _ => wordOfBytes (s.readByte (addr + 1)) (s.readByte addr)

/-- The bus's word write, little-endian, with the same range check. It is part of the bus; the engine never issues
it (R41). DEDUCED, unsafe for a claim about it (log entry 13). -/
def State.writeWord (s : State) (addr v : Word) : Except OutOfRange State :=
  (checkWordRange addr).map fun _ => (s.writeByte addr (lowByte v)).writeByte (addr + 1) (highByte v)

-- The stack (10_state.md R26 to R31).

/-- The address SP designates: `STACK_BASE + SP` (R26). -/
def stackAddress (sp : Byte) : Word := config.stackBase + zext16 sp

/-- `Push(v)`: write where SP points, then decrement (R28). -/
def State.push (s : State) (v : Byte) : State :=
  (s.writeByte (stackAddress s.sp) v).setSP (s.sp - 1)

/-- `Pull()`: increment, then read where SP points (R29). -/
def State.pull (s : State) : Byte × State :=
  (s.readByte (stackAddress (s.sp + 1)), s.setSP (s.sp + 1))

/-- `PushWord(w)`: the high byte, then the low byte (R30). -/
def State.pushWord (s : State) (w : Word) : State := (s.push (highByte w)).push (lowByte w)

/-- `PullWord()`: the low byte, then the high byte (R31). -/
def State.pullWord (s : State) : Word × State :=
  let (lo, t) := s.pull
  let (hi, u) := t.pull
  (wordOfBytes hi lo, u)

-- The end of a run, and the way back (40_engine_step.md R83, 60_exceptions.md R222, R228).

/-- `halt`: run state Halted, nothing else (R83, R224). -/
def State.halt (s : State) : State := s.setRunState .halted

/-- Taking the OutOfRange fault. The state given is the one in which the fault is raised, PC being the snapshot: run
state Faulted, nothing saved, nothing vectored, nothing else changed (R222). -/
def takeOutOfRange (e : OutOfRange) (s : State) : State := s.setRunState (.faulted e)

/-- `reset()`, the only return from Halted and Faulted (R228, 70_reset_and_hazards.md R245), legal in every run
state. `SP_RESET` is its argument, since the spec leaves it open (D3). Memory is not changed (R247). -/
def hostReset (spReset : Byte) (s : State) : State := State.afterReset spReset s.memory

-- The frame of every instruction (40_engine_step.md R81 to R86).

/-- The state a handler starts in: PC is the snapshot, one past the opcode byte (R81, R84). -/
def State.snapshot (s : State) : State := s.setPC (s.pc + 1)

/-- The advance rule: PC moves past the operand bytes exactly when it still has the snapshot's value, a comparison of
values (R85). -/
def State.advance (s : State) (snap : Word) (length : Nat) : State :=
  if s.pc = snap then s.setPC (s.pc + BitVec.ofNat 16 (length - 1)) else s

/-- One instruction of a given length, from its opcode address: PC to the snapshot, the handler, then the advance; if
the handler raises OutOfRange the step ends in the snapshot state, Faulted (R84, R86, R222). -/
def runHandler (length : Nat) (handler : State → Except OutOfRange State) (s : State) : Result :=
  match handler s.snapshot with
  | .error e => .next (takeOutOfRange e s.snapshot)
  | .ok t => .next (t.advance s.snapshot.pc length)

/-- The halting fetch: PC one past the opcode byte, run state Halted, nothing else (R81, R83). It is the whole effect
of opcode 0x00 and of the 106 bytes with no table entry. -/
def haltStep (s : State) : Result := .next s.snapshot.halt

/-- The instruction at PC, decoded from the opcode byte and the two bytes after it, addresses modulo 65,536
(20_memory.md R46); none where the opcode byte has no table entry. Reading a byte the instruction does not use is
unobservable (R42); where the word operand would leave the image the meaning faults before it uses it (log
entry 6). -/
def State.fetch (s : State) : Option Instr :=
  decodeWindow (s.readByte s.pc) (s.readByte (s.pc + 1)) (s.readByte (s.pc + 2))

end Sys2Proof.Machine
end

