-- ==== Sys2Proof/Machine/Operands.lean ====
section
/-! DEFINITION. The addressing-mode resolver (41_addressing_modes.md R100 to R114) and the shapes an instruction's
handler takes over it. In this file a state's PC is the snapshot, the address of the first operand byte (R84), and
the operand byte or word is the one the instruction carries, the bytes the fetch read there (log entry 6). -/

namespace Sys2Proof.Machine

/-- The address of the high byte of a zero-page pointer: inside page zero where `ZP_PTR_WRAP` holds, else the next
address (R110, R111). -/
def pointerHighAddress (wrap : Bool) (zp : Byte) : Word :=
  if wrap then zext16 (zp + 1) else zext16 zp + 1

/-- The word a zero-page pointer holds: two byte reads, never a bus word read (R110, R111). -/
def State.zeroPagePointer (s : State) (zp : Byte) : Word :=
  wordOfBytes (s.readByte (pointerHighAddress config.zpPtrWrap zp)) (s.readByte (zext16 zp))

/-- The word an indirect jump's pointer holds; where the pointer's low byte is 0xFF the high byte comes from the start
of the same page (R109). -/
def State.jumpPointer (s : State) (ptr : Word) : Word :=
  if lowByte ptr = 0xFF then wordOfBytes (s.readByte (ptr &&& 0xFF00)) (s.readByte ptr)
  else wordOfBytes (s.readByte (ptr + 1)) (s.readByte ptr)

end Sys2Proof.Machine

namespace Sys2Proof
open Machine

/-- The effective address of each mode, from the snapshot PC, X, Y and memory (R103 to R113). -/
def Operand.address (o : Operand) (s : State) : Word :=
  match o with
  | .immediate _ => s.pc
  | .zeroPage n => zext16 n
  | .zeroPageX n => zext16 (n + s.x)
  | .zeroPageY n => zext16 (n + s.y)
  | .absolute w => w
  | .absoluteX w => w + zext16 s.x
  | .absoluteY w => w + zext16 s.y
  | .indirect w => s.jumpPointer w
  | .indirectX n => s.zeroPagePointer (n + s.x)
  | .indirectY n => s.zeroPagePointer n + zext16 s.y
  | .relative d => s.pc + 1 + sext16 d

/-- The modes whose operand is a bus word read at the snapshot (R107, R108, R109, R112). -/
def Operand.readsWord : Operand → Bool
  | .absolute _ | .absoluteX _ | .absoluteY _ | .indirect _ => true
  | .immediate _ | .zeroPage _ | .zeroPageX _ | .zeroPageY _ => false
  | .indirectX _ | .indirectY _ | .relative _ => false

/-- `EA(mode)`: a mode with an operand word raises OutOfRange exactly when the snapshot is 0xFFFF; the pointer reads
never do (R100, R107, R109, 20_memory.md R44). -/
def Operand.resolve (o : Operand) (s : State) : Except OutOfRange Word :=
  (if o.readsWord then checkWordRange s.pc else .ok ()).map fun _ => o.address s

/-- The operand byte once the address is known to be in range; the immediate operand is the instruction's own second
byte (R103, R114). -/
def Operand.byteAt (o : Operand) (s : State) : Byte :=
  match o with
  | .immediate n => n
  | .zeroPage _ | .zeroPageX _ | .zeroPageY _ | .absolute _ | .absoluteX _ | .absoluteY _
  | .indirect _ | .indirectX _ | .indirectY _ | .relative _ => s.readByte (o.address s)

/-- `Operand(mode)` (R114). -/
def Operand.value (o : Operand) (s : State) : Except OutOfRange Byte :=
  (o.resolve s).map fun _ => o.byteAt s

end Sys2Proof

namespace Sys2Proof.Machine

/-- An instruction without an operand (R101): length 1. -/
def impliedForm (f : State → State) : State → Result :=
  runHandler 1 fun s => .ok (f s)

/-- An instruction that resolves its address and goes on with it. -/
def withAddress (o : Operand) (f : Word → State → State) : State → Result :=
  runHandler o.mode.length fun s => (o.resolve s).map fun ea => f ea s

/-- An instruction that reads one operand byte (20_memory.md R50, read forms). -/
def readForm (o : Operand) (f : Byte → State → State) : State → Result :=
  runHandler o.mode.length fun s => (o.value s).map fun m => f m s

/-- A store: one byte written at the effective address, its old content not read (R50, store forms). -/
def storeForm (o : Operand) (source : State → Byte) : State → Result :=
  withAddress o fun ea s => s.writeByte ea (source s)

/-- A read-modify-write on memory: one read and one write at the effective address (R50). -/
def rmwForm (o : Operand) (op : Byte → Byte → RmwResult) : State → Result :=
  withAddress o fun ea s =>
    let r := op (s.readByte ea) s.p
    (s.writeByte ea r.value).setP r.p

/-- The accumulator form of a shift or rotate: the operand is A and the result is written to A (R102). -/
def accumulatorForm (op : Byte → Byte → RmwResult) : State → Result :=
  impliedForm fun s =>
    let r := op s.a s.p
    (s.setA r.value).setP r.p

end Sys2Proof.Machine
end

