-- ==== Sys2Proof/Machine/Arithmetic.lean ====
section
/-! DEFINITION. Add, subtract and the bitwise logic on the accumulator (43_arithmetic_logic.md R140 to R146). -/

namespace Sys2Proof.Machine

/-- The adder shared by ADC and SBC: `A <- a + b + C`, with C, V, Z and N from it and the decimal flag unread
(R140, 10_state.md R24). -/
def addToA (b : Byte) (s : State) : State :=
  let r := addWithCarry s.a b (s.flag .c)
  (((s.setFlag .c r.carry).setFlag .v r.overflow).setA r.value).setZN r.value

/-- ADC (R140). -/
def adc (m : Byte) (s : State) : State := addToA m s

/-- SBC: the adder of ADC on the ones' complement of the operand (R141). -/
def sbc (m : Byte) (s : State) : State := addToA (m ^^^ 0xFF) s

/-- `A <- v; SetZN(A)`, the tail of the three logical operations (R142 to R144). -/
def logicResult (v : Byte) (s : State) : State := (s.setA v).setZN v

/-- AND (R142). -/
def andM (m : Byte) (s : State) : State := logicResult (s.a &&& m) s

/-- ORA (R143). -/
def ora (m : Byte) (s : State) : State := logicResult (s.a ||| m) s

/-- EOR (R144). -/
def eor (m : Byte) (s : State) : State := logicResult (s.a ^^^ m) s

-- ADC, R140

/-- ADC #$nn (`69`): R140, R103. -/
def execAdcImmediate (n : Byte) (s : State) : Result :=
  readForm (.immediate n) adc s

/-- ADC $nn (`65`): R140, R104. -/
def execAdcZeroPage (n : Byte) (s : State) : Result :=
  readForm (.zeroPage n) adc s

/-- ADC $nn,X (`75`): R140, R105. -/
def execAdcZeroPageX (n : Byte) (s : State) : Result :=
  readForm (.zeroPageX n) adc s

/-- ADC $nnnn (`6D`): R140, R107. -/
def execAdcAbsolute (w : Word) (s : State) : Result :=
  readForm (.absolute w) adc s

/-- ADC $nnnn,X (`7D`): R140, R108. -/
def execAdcAbsoluteX (w : Word) (s : State) : Result :=
  readForm (.absoluteX w) adc s

/-- ADC $nnnn,Y (`79`): R140, R112. -/
def execAdcAbsoluteY (w : Word) (s : State) : Result :=
  readForm (.absoluteY w) adc s

/-- ADC ($nn,X) (`61`): R140, R110. -/
def execAdcIndirectX (n : Byte) (s : State) : Result :=
  readForm (.indirectX n) adc s

/-- ADC ($nn),Y (`71`): R140, R111. -/
def execAdcIndirectY (n : Byte) (s : State) : Result :=
  readForm (.indirectY n) adc s

-- SBC, R141

/-- SBC #$nn (`E9`): R141, R103. -/
def execSbcImmediate (n : Byte) (s : State) : Result :=
  readForm (.immediate n) sbc s

/-- SBC $nn (`E5`): R141, R104. -/
def execSbcZeroPage (n : Byte) (s : State) : Result :=
  readForm (.zeroPage n) sbc s

/-- SBC $nn,X (`F5`): R141, R105. -/
def execSbcZeroPageX (n : Byte) (s : State) : Result :=
  readForm (.zeroPageX n) sbc s

/-- SBC $nnnn (`ED`): R141, R107. -/
def execSbcAbsolute (w : Word) (s : State) : Result :=
  readForm (.absolute w) sbc s

/-- SBC $nnnn,X (`FD`): R141, R108. -/
def execSbcAbsoluteX (w : Word) (s : State) : Result :=
  readForm (.absoluteX w) sbc s

/-- SBC $nnnn,Y (`F9`): R141, R112. -/
def execSbcAbsoluteY (w : Word) (s : State) : Result :=
  readForm (.absoluteY w) sbc s

/-- SBC ($nn,X) (`E1`): R141, R110. -/
def execSbcIndirectX (n : Byte) (s : State) : Result :=
  readForm (.indirectX n) sbc s

/-- SBC ($nn),Y (`F1`): R141, R111. -/
def execSbcIndirectY (n : Byte) (s : State) : Result :=
  readForm (.indirectY n) sbc s

-- AND, R142

/-- AND #$nn (`29`): R142, R103. -/
def execAndImmediate (n : Byte) (s : State) : Result :=
  readForm (.immediate n) andM s

/-- AND $nn (`25`): R142, R104. -/
def execAndZeroPage (n : Byte) (s : State) : Result :=
  readForm (.zeroPage n) andM s

/-- AND $nn,X (`35`): R142, R105. -/
def execAndZeroPageX (n : Byte) (s : State) : Result :=
  readForm (.zeroPageX n) andM s

/-- AND $nnnn (`2D`): R142, R107. -/
def execAndAbsolute (w : Word) (s : State) : Result :=
  readForm (.absolute w) andM s

/-- AND $nnnn,X (`3D`): R142, R108. -/
def execAndAbsoluteX (w : Word) (s : State) : Result :=
  readForm (.absoluteX w) andM s

/-- AND $nnnn,Y (`39`): R142, R112. -/
def execAndAbsoluteY (w : Word) (s : State) : Result :=
  readForm (.absoluteY w) andM s

/-- AND ($nn,X) (`21`): R142, R110. -/
def execAndIndirectX (n : Byte) (s : State) : Result :=
  readForm (.indirectX n) andM s

/-- AND ($nn),Y (`31`): R142, R111. -/
def execAndIndirectY (n : Byte) (s : State) : Result :=
  readForm (.indirectY n) andM s

-- ORA, R143

/-- ORA #$nn (`09`): R143, R103. -/
def execOraImmediate (n : Byte) (s : State) : Result :=
  readForm (.immediate n) ora s

/-- ORA $nn (`05`): R143, R104. -/
def execOraZeroPage (n : Byte) (s : State) : Result :=
  readForm (.zeroPage n) ora s

/-- ORA $nn,X (`15`): R143, R105. -/
def execOraZeroPageX (n : Byte) (s : State) : Result :=
  readForm (.zeroPageX n) ora s

/-- ORA $nnnn (`0D`): R143, R107. -/
def execOraAbsolute (w : Word) (s : State) : Result :=
  readForm (.absolute w) ora s

/-- ORA $nnnn,X (`1D`): R143, R108. -/
def execOraAbsoluteX (w : Word) (s : State) : Result :=
  readForm (.absoluteX w) ora s

/-- ORA $nnnn,Y (`19`): R143, R112. -/
def execOraAbsoluteY (w : Word) (s : State) : Result :=
  readForm (.absoluteY w) ora s

/-- ORA ($nn,X) (`01`): R143, R110. -/
def execOraIndirectX (n : Byte) (s : State) : Result :=
  readForm (.indirectX n) ora s

/-- ORA ($nn),Y (`11`): R143, R111. -/
def execOraIndirectY (n : Byte) (s : State) : Result :=
  readForm (.indirectY n) ora s

-- EOR, R144

/-- EOR #$nn (`49`): R144, R103. -/
def execEorImmediate (n : Byte) (s : State) : Result :=
  readForm (.immediate n) eor s

/-- EOR $nn (`45`): R144, R104. -/
def execEorZeroPage (n : Byte) (s : State) : Result :=
  readForm (.zeroPage n) eor s

/-- EOR $nn,X (`55`): R144, R105. -/
def execEorZeroPageX (n : Byte) (s : State) : Result :=
  readForm (.zeroPageX n) eor s

/-- EOR $nnnn (`4D`): R144, R107. -/
def execEorAbsolute (w : Word) (s : State) : Result :=
  readForm (.absolute w) eor s

/-- EOR $nnnn,X (`5D`): R144, R108. -/
def execEorAbsoluteX (w : Word) (s : State) : Result :=
  readForm (.absoluteX w) eor s

/-- EOR $nnnn,Y (`59`): R144, R112. -/
def execEorAbsoluteY (w : Word) (s : State) : Result :=
  readForm (.absoluteY w) eor s

/-- EOR ($nn,X) (`41`): R144, R110. -/
def execEorIndirectX (n : Byte) (s : State) : Result :=
  readForm (.indirectX n) eor s

/-- EOR ($nn),Y (`51`): R144, R111. -/
def execEorIndirectY (n : Byte) (s : State) : Result :=
  readForm (.indirectY n) eor s

end Sys2Proof.Machine
end

