-- ==== Sys2Proof/Machine/Compare.lean ====
section
/-! DEFINITION. Compares and the bit test (45_compare_bit.md R165 to R168). -/

namespace Sys2Proof.Machine

/-- CMP: the flags of `A - M`, A unchanged (R165). -/
def cmp (m : Byte) (s : State) : State := s.setP (compareFlags s.a m s.p)

/-- CPX (R166). -/
def cpx (m : Byte) (s : State) : State := s.setP (compareFlags s.x m s.p)

/-- CPY (R167). -/
def cpy (m : Byte) (s : State) : State := s.setP (compareFlags s.y m s.p)

/-- BIT: Z from `A & M`, N and V from bits 7 and 6 of M (R168). -/
def bit (m : Byte) (s : State) : State :=
  ((s.setFlag .z ((s.a &&& m) == 0)).setFlag .n (m.getLsbD 7)).setFlag .v (m.getLsbD 6)

-- CMP, R165

/-- CMP #$nn (`C9`): R165, R103. -/
def execCmpImmediate (n : Byte) (s : State) : Result :=
  readForm (.immediate n) cmp s

/-- CMP $nn (`C5`): R165, R104. -/
def execCmpZeroPage (n : Byte) (s : State) : Result :=
  readForm (.zeroPage n) cmp s

/-- CMP $nn,X (`D5`): R165, R105. -/
def execCmpZeroPageX (n : Byte) (s : State) : Result :=
  readForm (.zeroPageX n) cmp s

/-- CMP $nnnn (`CD`): R165, R107. -/
def execCmpAbsolute (w : Word) (s : State) : Result :=
  readForm (.absolute w) cmp s

/-- CMP $nnnn,X (`DD`): R165, R108. -/
def execCmpAbsoluteX (w : Word) (s : State) : Result :=
  readForm (.absoluteX w) cmp s

/-- CMP $nnnn,Y (`D9`): R165, R112. -/
def execCmpAbsoluteY (w : Word) (s : State) : Result :=
  readForm (.absoluteY w) cmp s

/-- CMP ($nn,X) (`C1`): R165, R110. -/
def execCmpIndirectX (n : Byte) (s : State) : Result :=
  readForm (.indirectX n) cmp s

/-- CMP ($nn),Y (`D1`): R165, R111. -/
def execCmpIndirectY (n : Byte) (s : State) : Result :=
  readForm (.indirectY n) cmp s

-- CPX, R166

/-- CPX #$nn (`E0`): R166, R103. -/
def execCpxImmediate (n : Byte) (s : State) : Result :=
  readForm (.immediate n) cpx s

/-- CPX $nn (`E4`): R166, R104. -/
def execCpxZeroPage (n : Byte) (s : State) : Result :=
  readForm (.zeroPage n) cpx s

/-- CPX $nnnn (`EC`): R166, R107. -/
def execCpxAbsolute (w : Word) (s : State) : Result :=
  readForm (.absolute w) cpx s

-- CPY, R167

/-- CPY #$nn (`C0`): R167, R103. -/
def execCpyImmediate (n : Byte) (s : State) : Result :=
  readForm (.immediate n) cpy s

/-- CPY $nn (`C4`): R167, R104. -/
def execCpyZeroPage (n : Byte) (s : State) : Result :=
  readForm (.zeroPage n) cpy s

/-- CPY $nnnn (`CC`): R167, R107. -/
def execCpyAbsolute (w : Word) (s : State) : Result :=
  readForm (.absolute w) cpy s

-- BIT, R168

/-- BIT $nn (`24`): R168, R104. -/
def execBitZeroPage (n : Byte) (s : State) : Result :=
  readForm (.zeroPage n) bit s

/-- BIT $nnnn (`2C`): R168, R107. -/
def execBitAbsolute (w : Word) (s : State) : Result :=
  readForm (.absolute w) bit s

end Sys2Proof.Machine
end

