-- ==== Sys2Proof/Machine/ControlFlow.lean ====
section
/-! DEFINITION. Branches, jumps, call and return (46_control_flow.md R175 to R187). Every final PC is subject to the
advance rule of 40_engine_step.md R85. -/

namespace Sys2Proof.Machine

/-- A branch taken exactly when flag `f` has the value `want`: `t <- EA(relative); if cond: PC <- t` (R175). -/
def branchForm (f : Flag) (want : Bool) (d : Byte) : State → Result :=
  withAddress (.relative d) fun t s => if s.flag f = want then s.setPC t else s

/-- `PC <- EA(mode)` (R184). -/
def jumpForm (o : Operand) : State → Result :=
  withAddress o fun t s => s.setPC t

/-- JSR: `t <- EA(absolute); w <- snap +16 1; PushWord(w); PC <- t` (R186). The target is resolved before the
push, so a fault pushes nothing. -/
def callForm (w : Word) : State → Result :=
  withAddress (.absolute w) fun t s => (s.pushWord (s.pc + 1)).setPC t

/-- RTS: `w <- PullWord(); PC <- w +16 1` (R187). -/
def rts (s : State) : State :=
  let (w, t) := s.pullWord
  t.setPC (w + 1)

-- BCC, R176

/-- BCC label (`90`): R176, R113. -/
def execBcc (d : Byte) (s : State) : Result :=
  branchForm .c false d s

-- BCS, R177

/-- BCS label (`B0`): R177, R113. -/
def execBcs (d : Byte) (s : State) : Result :=
  branchForm .c true d s

-- BEQ, R178

/-- BEQ label (`F0`): R178, R113. -/
def execBeq (d : Byte) (s : State) : Result :=
  branchForm .z true d s

-- BNE, R179

/-- BNE label (`D0`): R179, R113. -/
def execBne (d : Byte) (s : State) : Result :=
  branchForm .z false d s

-- BMI, R180

/-- BMI label (`30`): R180, R113. -/
def execBmi (d : Byte) (s : State) : Result :=
  branchForm .n true d s

-- BPL, R181

/-- BPL label (`10`): R181, R113. -/
def execBpl (d : Byte) (s : State) : Result :=
  branchForm .n false d s

-- BVC, R182

/-- BVC label (`50`): R182, R113. -/
def execBvc (d : Byte) (s : State) : Result :=
  branchForm .v false d s

-- BVS, R183

/-- BVS label (`70`): R183, R113. -/
def execBvs (d : Byte) (s : State) : Result :=
  branchForm .v true d s

-- JMP, R184

/-- JMP $nnnn (`4C`): R184, R107. -/
def execJmpAbsolute (w : Word) (s : State) : Result :=
  jumpForm (.absolute w) s

/-- JMP ($nnnn) (`6C`): R184, R109. -/
def execJmpIndirect (w : Word) (s : State) : Result :=
  jumpForm (.indirect w) s

-- JSR, R186

/-- JSR $nnnn (`20`): R186, R107. -/
def execJsr (w : Word) (s : State) : Result :=
  callForm w s

-- RTS, R187

/-- RTS (`60`): R187, R101. -/
def execRts (s : State) : Result :=
  impliedForm rts s

end Sys2Proof.Machine
end

