-- ==== Sys2Proof/Machine/LoadStore.lean ====
section
/-! DEFINITION. Loads, stores and register transfers (42_load_store_transfer.md R120 to R131). -/

namespace Sys2Proof.Machine

/-- `A <- Operand(mode); SetZN(A)` (R120). -/
def lda (m : Byte) (s : State) : State := (s.setA m).setZN m

/-- `X <- Operand(mode); SetZN(X)` (R121). -/
def ldx (m : Byte) (s : State) : State := (s.setX m).setZN m

/-- `Y <- Operand(mode); SetZN(Y)` (R122). -/
def ldy (m : Byte) (s : State) : State := (s.setY m).setZN m

/-- `X <- A; SetZN(X)` (R126). -/
def tax (s : State) : State := (s.setX s.a).setZN s.a

/-- `A <- X; SetZN(A)` (R127). -/
def txa (s : State) : State := (s.setA s.x).setZN s.x

/-- `Y <- A; SetZN(Y)` (R128). -/
def tay (s : State) : State := (s.setY s.a).setZN s.a

/-- `A <- Y; SetZN(A)` (R129). -/
def tya (s : State) : State := (s.setA s.y).setZN s.y

/-- `X <- SP; SetZN(X)` (R130). -/
def tsx (s : State) : State := (s.setX s.sp).setZN s.sp

/-- `SP <- X`, no flag (R131). -/
def txs (s : State) : State := s.setSP s.x

-- LDA, R120

/-- LDA #$nn (`A9`): R120, R103. -/
def execLdaImmediate (n : Byte) (s : State) : Result :=
  readForm (.immediate n) lda s

/-- LDA $nn (`A5`): R120, R104. -/
def execLdaZeroPage (n : Byte) (s : State) : Result :=
  readForm (.zeroPage n) lda s

/-- LDA $nn,X (`B5`): R120, R105. -/
def execLdaZeroPageX (n : Byte) (s : State) : Result :=
  readForm (.zeroPageX n) lda s

/-- LDA $nnnn (`AD`): R120, R107. -/
def execLdaAbsolute (w : Word) (s : State) : Result :=
  readForm (.absolute w) lda s

/-- LDA $nnnn,X (`BD`): R120, R108. -/
def execLdaAbsoluteX (w : Word) (s : State) : Result :=
  readForm (.absoluteX w) lda s

/-- LDA $nnnn,Y (`B9`): R120, R112. -/
def execLdaAbsoluteY (w : Word) (s : State) : Result :=
  readForm (.absoluteY w) lda s

/-- LDA ($nn,X) (`A1`): R120, R110. -/
def execLdaIndirectX (n : Byte) (s : State) : Result :=
  readForm (.indirectX n) lda s

/-- LDA ($nn),Y (`B1`): R120, R111. -/
def execLdaIndirectY (n : Byte) (s : State) : Result :=
  readForm (.indirectY n) lda s

-- LDX, R121

/-- LDX #$nn (`A2`): R121, R103. -/
def execLdxImmediate (n : Byte) (s : State) : Result :=
  readForm (.immediate n) ldx s

/-- LDX $nn (`A6`): R121, R104. -/
def execLdxZeroPage (n : Byte) (s : State) : Result :=
  readForm (.zeroPage n) ldx s

/-- LDX $nn,Y (`B6`): R121, R106. -/
def execLdxZeroPageY (n : Byte) (s : State) : Result :=
  readForm (.zeroPageY n) ldx s

/-- LDX $nnnn (`AE`): R121, R107. -/
def execLdxAbsolute (w : Word) (s : State) : Result :=
  readForm (.absolute w) ldx s

/-- LDX $nnnn,Y (`BE`): R121, R112. -/
def execLdxAbsoluteY (w : Word) (s : State) : Result :=
  readForm (.absoluteY w) ldx s

-- LDY, R122

/-- LDY #$nn (`A0`): R122, R103. -/
def execLdyImmediate (n : Byte) (s : State) : Result :=
  readForm (.immediate n) ldy s

/-- LDY $nn (`A4`): R122, R104. -/
def execLdyZeroPage (n : Byte) (s : State) : Result :=
  readForm (.zeroPage n) ldy s

/-- LDY $nn,X (`B4`): R122, R105. -/
def execLdyZeroPageX (n : Byte) (s : State) : Result :=
  readForm (.zeroPageX n) ldy s

/-- LDY $nnnn (`AC`): R122, R107. -/
def execLdyAbsolute (w : Word) (s : State) : Result :=
  readForm (.absolute w) ldy s

/-- LDY $nnnn,X (`BC`): R122, R108. -/
def execLdyAbsoluteX (w : Word) (s : State) : Result :=
  readForm (.absoluteX w) ldy s

-- STA, R123

/-- STA $nn (`85`): R123, R104. -/
def execStaZeroPage (n : Byte) (s : State) : Result :=
  storeForm (.zeroPage n) State.a s

/-- STA $nn,X (`95`): R123, R105. -/
def execStaZeroPageX (n : Byte) (s : State) : Result :=
  storeForm (.zeroPageX n) State.a s

/-- STA $nnnn (`8D`): R123, R107. -/
def execStaAbsolute (w : Word) (s : State) : Result :=
  storeForm (.absolute w) State.a s

/-- STA $nnnn,X (`9D`): R123, R108. -/
def execStaAbsoluteX (w : Word) (s : State) : Result :=
  storeForm (.absoluteX w) State.a s

/-- STA $nnnn,Y (`99`): R123, R112. -/
def execStaAbsoluteY (w : Word) (s : State) : Result :=
  storeForm (.absoluteY w) State.a s

/-- STA ($nn,X) (`81`): R123, R110. -/
def execStaIndirectX (n : Byte) (s : State) : Result :=
  storeForm (.indirectX n) State.a s

/-- STA ($nn),Y (`91`): R123, R111. -/
def execStaIndirectY (n : Byte) (s : State) : Result :=
  storeForm (.indirectY n) State.a s

-- STX, R124

/-- STX $nn (`86`): R124, R104. -/
def execStxZeroPage (n : Byte) (s : State) : Result :=
  storeForm (.zeroPage n) State.x s

/-- STX $nn,Y (`96`): R124, R106. -/
def execStxZeroPageY (n : Byte) (s : State) : Result :=
  storeForm (.zeroPageY n) State.x s

/-- STX $nnnn (`8E`): R124, R107. -/
def execStxAbsolute (w : Word) (s : State) : Result :=
  storeForm (.absolute w) State.x s

-- STY, R125

/-- STY $nn (`84`): R125, R104. -/
def execStyZeroPage (n : Byte) (s : State) : Result :=
  storeForm (.zeroPage n) State.y s

/-- STY $nn,X (`94`): R125, R105. -/
def execStyZeroPageX (n : Byte) (s : State) : Result :=
  storeForm (.zeroPageX n) State.y s

/-- STY $nnnn (`8C`): R125, R107. -/
def execStyAbsolute (w : Word) (s : State) : Result :=
  storeForm (.absolute w) State.y s

-- TAX, R126

/-- TAX (`AA`): R126, R101. -/
def execTax (s : State) : Result :=
  impliedForm tax s

-- TXA, R127

/-- TXA (`8A`): R127, R101. -/
def execTxa (s : State) : Result :=
  impliedForm txa s

-- TAY, R128

/-- TAY (`A8`): R128, R101. -/
def execTay (s : State) : Result :=
  impliedForm tay s

-- TYA, R129

/-- TYA (`98`): R129, R101. -/
def execTya (s : State) : Result :=
  impliedForm tya s

-- TSX, R130

/-- TSX (`BA`): R130, R101. -/
def execTsx (s : State) : Result :=
  impliedForm tsx s

-- TXS, R131

/-- TXS (`9A`): R131, R101. -/
def execTxs (s : State) : Result :=
  impliedForm txs s

end Sys2Proof.Machine
end

