-- ==== Sys2Proof/Machine/Shift.lean ====
section
/-! DEFINITION. Shifts, rotates, increments and decrements (44_shift_incdec.md R150 to R159). -/

namespace Sys2Proof.Machine

/-- The tail of a shift or rotate: C takes the bit shifted out of the old value, Z and N follow the result
(R150 to R153). -/
def shiftResult (value : Byte) (out : Bool) (p : Byte) : RmwResult :=
  { value := value, p := withZN (withFlag p .c out) value }

/-- ASL: `{old[6:0], 0}`, C from `old[7]` (R150). -/
def asl (old p : Byte) : RmwResult := shiftResult (old <<< 1) (old.getLsbD 7) p

/-- LSR: `{0, old[7:1]}`, C from `old[0]` (R151). -/
def lsr (old p : Byte) : RmwResult := shiftResult (old >>> 1) (old.getLsbD 0) p

/-- ROL: `{old[6:0], c_in}`, C from `old[7]`, `c_in` being the carry before the instruction (R152). -/
def rol (old p : Byte) : RmwResult :=
  shiftResult (old <<< 1 ||| bitByte (flagOf p .c)) (old.getLsbD 7) p

/-- ROR: `{c_in, old[7:1]}`, C from `old[0]`, `c_in` being the carry before the instruction (R153). -/
def ror (old p : Byte) : RmwResult :=
  shiftResult (old >>> 1 ||| bitByte (flagOf p .c) <<< 7) (old.getLsbD 0) p

/-- INC: `old +8 1`, Z and N only (R154). -/
def inc (old p : Byte) : RmwResult := { value := old + 1, p := withZN p (old + 1) }

/-- DEC: `old -8 1`, Z and N only (R155). -/
def dec (old p : Byte) : RmwResult := { value := old - 1, p := withZN p (old - 1) }

/-- `X <- X +8 1; SetZN(X)` (R156). -/
def inx (s : State) : State := (s.setX (s.x + 1)).setZN (s.x + 1)

/-- `X <- X -8 1; SetZN(X)` (R157). -/
def dex (s : State) : State := (s.setX (s.x - 1)).setZN (s.x - 1)

/-- `Y <- Y +8 1; SetZN(Y)` (R158). -/
def iny (s : State) : State := (s.setY (s.y + 1)).setZN (s.y + 1)

/-- `Y <- Y -8 1; SetZN(Y)` (R159). -/
def dey (s : State) : State := (s.setY (s.y - 1)).setZN (s.y - 1)

-- ASL, R150

/-- ASL A (`0A`): R150, R102. -/
def execAslAccumulator (s : State) : Result :=
  accumulatorForm asl s

/-- ASL $nn (`06`): R150, R104. -/
def execAslZeroPage (n : Byte) (s : State) : Result :=
  rmwForm (.zeroPage n) asl s

/-- ASL $nn,X (`16`): R150, R105. -/
def execAslZeroPageX (n : Byte) (s : State) : Result :=
  rmwForm (.zeroPageX n) asl s

/-- ASL $nnnn (`0E`): R150, R107. -/
def execAslAbsolute (w : Word) (s : State) : Result :=
  rmwForm (.absolute w) asl s

/-- ASL $nnnn,X (`1E`): R150, R108. -/
def execAslAbsoluteX (w : Word) (s : State) : Result :=
  rmwForm (.absoluteX w) asl s

-- LSR, R151

/-- LSR A (`4A`): R151, R102. -/
def execLsrAccumulator (s : State) : Result :=
  accumulatorForm lsr s

/-- LSR $nn (`46`): R151, R104. -/
def execLsrZeroPage (n : Byte) (s : State) : Result :=
  rmwForm (.zeroPage n) lsr s

/-- LSR $nn,X (`56`): R151, R105. -/
def execLsrZeroPageX (n : Byte) (s : State) : Result :=
  rmwForm (.zeroPageX n) lsr s

/-- LSR $nnnn (`4E`): R151, R107. -/
def execLsrAbsolute (w : Word) (s : State) : Result :=
  rmwForm (.absolute w) lsr s

/-- LSR $nnnn,X (`5E`): R151, R108. -/
def execLsrAbsoluteX (w : Word) (s : State) : Result :=
  rmwForm (.absoluteX w) lsr s

-- ROL, R152

/-- ROL A (`2A`): R152, R102. -/
def execRolAccumulator (s : State) : Result :=
  accumulatorForm rol s

/-- ROL $nn (`26`): R152, R104. -/
def execRolZeroPage (n : Byte) (s : State) : Result :=
  rmwForm (.zeroPage n) rol s

/-- ROL $nn,X (`36`): R152, R105. -/
def execRolZeroPageX (n : Byte) (s : State) : Result :=
  rmwForm (.zeroPageX n) rol s

/-- ROL $nnnn (`2E`): R152, R107. -/
def execRolAbsolute (w : Word) (s : State) : Result :=
  rmwForm (.absolute w) rol s

/-- ROL $nnnn,X (`3E`): R152, R108. -/
def execRolAbsoluteX (w : Word) (s : State) : Result :=
  rmwForm (.absoluteX w) rol s

-- ROR, R153

/-- ROR A (`6A`): R153, R102. -/
def execRorAccumulator (s : State) : Result :=
  accumulatorForm ror s

/-- ROR $nn (`66`): R153, R104. -/
def execRorZeroPage (n : Byte) (s : State) : Result :=
  rmwForm (.zeroPage n) ror s

/-- ROR $nn,X (`76`): R153, R105. -/
def execRorZeroPageX (n : Byte) (s : State) : Result :=
  rmwForm (.zeroPageX n) ror s

/-- ROR $nnnn (`6E`): R153, R107. -/
def execRorAbsolute (w : Word) (s : State) : Result :=
  rmwForm (.absolute w) ror s

/-- ROR $nnnn,X (`7E`): R153, R108. -/
def execRorAbsoluteX (w : Word) (s : State) : Result :=
  rmwForm (.absoluteX w) ror s

-- INC, R154

/-- INC $nn (`E6`): R154, R104. -/
def execIncZeroPage (n : Byte) (s : State) : Result :=
  rmwForm (.zeroPage n) inc s

/-- INC $nn,X (`F6`): R154, R105. -/
def execIncZeroPageX (n : Byte) (s : State) : Result :=
  rmwForm (.zeroPageX n) inc s

/-- INC $nnnn (`EE`): R154, R107. -/
def execIncAbsolute (w : Word) (s : State) : Result :=
  rmwForm (.absolute w) inc s

/-- INC $nnnn,X (`FE`): R154, R108. -/
def execIncAbsoluteX (w : Word) (s : State) : Result :=
  rmwForm (.absoluteX w) inc s

-- DEC, R155

/-- DEC $nn (`C6`): R155, R104. -/
def execDecZeroPage (n : Byte) (s : State) : Result :=
  rmwForm (.zeroPage n) dec s

/-- DEC $nn,X (`D6`): R155, R105. -/
def execDecZeroPageX (n : Byte) (s : State) : Result :=
  rmwForm (.zeroPageX n) dec s

/-- DEC $nnnn (`CE`): R155, R107. -/
def execDecAbsolute (w : Word) (s : State) : Result :=
  rmwForm (.absolute w) dec s

/-- DEC $nnnn,X (`DE`): R155, R108. -/
def execDecAbsoluteX (w : Word) (s : State) : Result :=
  rmwForm (.absoluteX w) dec s

-- INX, R156

/-- INX (`E8`): R156, R101. -/
def execInx (s : State) : Result :=
  impliedForm inx s

-- DEX, R157

/-- DEX (`CA`): R157, R101. -/
def execDex (s : State) : Result :=
  impliedForm dex s

-- INY, R158

/-- INY (`C8`): R158, R101. -/
def execIny (s : State) : Result :=
  impliedForm iny s

-- DEY, R159

/-- DEY (`88`): R159, R101. -/
def execDey (s : State) : Result :=
  impliedForm dey s

end Sys2Proof.Machine
end

