-- ==== Sys2Proof/Machine/StackFlags.lean ====
section
/-! DEFINITION. Stack, flag, no-operation and halting instructions (47_stack_flags_system.md R195 to R207). -/

namespace Sys2Proof.Machine

/-- `Push(A)` (R195). -/
def pha (s : State) : State := s.push s.a

/-- `A <- Pull(); SetZN(A)` (R196). -/
def pla (s : State) : State :=
  let (v, t) := s.pull
  (t.setA v).setZN v

/-- `Push(P)`, all eight bits as stored (R197). -/
def php (s : State) : State := s.push s.p

/-- `P <- Pull()`, all eight bits replaced (R198). -/
def plp (s : State) : State :=
  let (v, t) := s.pull
  t.setP v

/-- A flag instruction: one bit of P set or cleared, no other effect (R199 to R205). -/
def flagForm (f : Flag) (value : Bool) : State → Result := impliedForm fun s => s.setFlag f value

-- PHA, R195

/-- PHA (`48`): R195, R101. -/
def execPha (s : State) : Result :=
  impliedForm pha s

-- PLA, R196

/-- PLA (`68`): R196, R101. -/
def execPla (s : State) : Result :=
  impliedForm pla s

-- PHP, R197

/-- PHP (`08`): R197, R101. -/
def execPhp (s : State) : Result :=
  impliedForm php s

-- PLP, R198

/-- PLP (`28`): R198, R101. -/
def execPlp (s : State) : Result :=
  impliedForm plp s

-- SEC, R199

/-- SEC (`38`): R199, R101. -/
def execSec (s : State) : Result :=
  flagForm .c true s

-- CLC, R200

/-- CLC (`18`): R200, R101. -/
def execClc (s : State) : Result :=
  flagForm .c false s

-- SEI, R201

/-- SEI (`78`): R201, R101. -/
def execSei (s : State) : Result :=
  flagForm .i true s

-- CLI, R202

/-- CLI (`58`): R202, R101. -/
def execCli (s : State) : Result :=
  flagForm .i false s

-- SED, R203

/-- SED (`F8`): R203, R101. -/
def execSed (s : State) : Result :=
  flagForm .d true s

-- CLD, R204

/-- CLD (`D8`): R204, R101. -/
def execCld (s : State) : Result :=
  flagForm .d false s

-- CLV, R205

/-- CLV (`B8`): R205, R101. -/
def execClv (s : State) : Result :=
  flagForm .v false s

-- NOP, R206

/-- NOP (`EA`): R206, R101. -/
def execNop (s : State) : Result :=
  impliedForm id s

-- BRK, R207

/-- BRK (`00`): R207, R101. -/
def execBrk (s : State) : Result :=
  haltStep s

end Sys2Proof.Machine
end

