-- ==== Sys2Proof/Machine/Step.lean ====
section
/-! DEFINITION. One step of the engine (40_engine_step.md R86), and the placing of an instruction word where the next
step fetches it. -/

namespace Sys2Proof.Machine

/-- One step: defined only in run state Running (R80). It fetches and decodes at PC; a byte with no table entry halts
(R83), any other instruction runs, BRK's meaning being the halt. In Halted and Faulted there is no step (R223, U21),
answered by a fault of its own name (DEDUCED, safe, log entry 5). -/
def step (s : State) : Host.Outcome State Fault Refusal :=
  match s.runState with
  | .halted => .fault .stuckHalted
  | .faulted e => .fault (.stuckFaulted e)
  | .running =>
    match s.fetch with
    | some i => exec i s
    | none => haltStep s

/-- The state with an instruction word of spec/opcode_table.json's numbering stored at PC and the engine Running, so
that the next step fetches and runs it. It stands for the host's loading of a program (log entry 3). -/
def State.withFetchWord (s : State) (nbits w : Nat) : State :=
  let (b0, b1, b2) := tableBytes nbits w
  (((s.writeByte s.pc b0).writeByte (s.pc + 1) b1).writeByte (s.pc + 2) b2).setRunState .running

end Sys2Proof.Machine
end

