-- ==== Sys2Proof/Machine/HostCalls.lean ====
section
/-! DEFINITION. What the host can do to the machine between steps: the observers and mutators (10_state.md R37), a
store into the image it owns (20_memory.md R56) and `run()` with its step hook (40_engine_step.md R87 to R90).
`reset()` is `hostReset` in Machine/Ops.lean. A mutator overwrites its register and sets no flag. -/

namespace Sys2Proof.Machine

/-- `getA`. -/
def getA (s : State) : Byte := s.a

/-- `getX`. -/
def getX (s : State) : Byte := s.x

/-- `getY`. -/
def getY (s : State) : Byte := s.y

/-- `getStatus`: the packed byte as stored (R16, R19). -/
def getStatus (s : State) : Byte := s.p

/-- `getProgramCounter`. -/
def getProgramCounter (s : State) : Word := s.pc

/-- `getStackPointer`. -/
def getStackPointer (s : State) : Byte := s.sp

-- Each mutator takes a value of any size and truncates it to the register's width (R37).

/-- `setA`; it does not set Z. -/
def hostSetA (v : Nat) (s : State) : State := s.setA (BitVec.ofNat 8 v)

/-- `setX`. -/
def hostSetX (v : Nat) (s : State) : State := s.setX (BitVec.ofNat 8 v)

/-- `setY`. -/
def hostSetY (v : Nat) (s : State) : State := s.setY (BitVec.ofNat 8 v)

/-- `setStatus`, the raw set of all eight bits (R16). -/
def hostSetStatus (v : Nat) (s : State) : State := s.setP (BitVec.ofNat 8 v)

/-- `setProgramCounter`. -/
def hostSetProgramCounter (v : Nat) (s : State) : State := s.setPC (BitVec.ofNat 16 v)

/-- `setStackPointer`. -/
def hostSetStackPointer (v : Nat) (s : State) : State := s.setSP (BitVec.ofNat 8 v)

/-- The state a run starts from: the host hands over the whole image, `MEM_INIT`, and calls `reset()` with `SP_RESET`;
the model has no state before that (70_reset_and_hazards.md R246, R247, R248). -/
def launch (spReset : Byte) (memInit : Word → Byte) : State := State.afterReset spReset (Memory.ofImage memInit)

/-- The host's store of one byte into the image, legal only while no run is in progress (R56, R248). -/
def hostStore (addr : Word) (v : Byte) (s : State) : State := s.writeByte addr v

/-- The host's store of consecutive bytes, addresses modulo 65,536. -/
def hostStoreList : Word → List Byte → State → State
  | _, [], s => s
  | addr, v :: rest, s => hostStoreList (addr + 1) rest (hostStore addr v s)

/-- `k` engine steps in a row, ending at the first that is not defined (R86). -/
def steps : Nat → State → Result
  | 0, s => .next s
  | k + 1, s =>
    match step s with
    | .next t => steps k t
    | .fault r => .fault r
    | .refused r => .refused r

/-- The ways a run ends (R90), or the fuel given to it does. -/
inductive RunEnd where
  | halted (s : State)
  | faulted (e : OutOfRange) (s : State)
  | unfinished (s : State)
  deriving DecidableEq, Repr

/-- `run()`: steps while the run state is Running. In Halted or Faulted it performs no step and returns at once
(R87, R89). The fuel bounds the steps, since a run may go on for ever (R87, R90). -/
def run : Nat → State → RunEnd
  | fuel, s =>
    match s.runState with
    | .halted => .halted s
    | .faulted e => .faulted e s
    | .running =>
      match fuel with
      | 0 => .unfinished s
      | k + 1 =>
        match step s with
        | .next t => run k t
        | .fault _ => .unfinished s
        | .refused _ => .unfinished s

/-- The states the step hook observes in the first steps of a run: one after each retired instruction, none for the
step that halts or faults (R88). -/
def hookStates : Nat → State → List State
  | 0, _ => []
  | k + 1, s =>
    match step s with
    | .next t => if t.runState = .running then t :: hookStates k t else []
    | .fault _ => []
    | .refused _ => []

end Sys2Proof.Machine
end

