-- ==== Sys2Proof/Safety.lean ====
section
/-! DEFINITION. The terms claims are stated in: what an instruction that completes has done, who may write what
(10_state.md R11, R18, R26; 20_memory.md R50), and the invariants of the machine. -/

namespace Sys2Proof.Machine

-- What changed, and that nothing else did.

/-- `p'` is `p` with the listed flags at the listed values and every other flag as it was. -/
def FlagsAfter (p p' : Byte) (changes : List (Flag × Bool)) : Prop :=
  ∀ f, flagOf p' f = (changes.lookup f).getD (flagOf p f)

/-- `m'` reads as `m` but for the listed bytes. -/
def MemoryAfter (m m' : Memory) (changes : List (Word × Byte)) : Prop :=
  ∀ a : Word, m'.read a.toNat = (changes.lookup a).getD (m.read a.toNat)

/-- The two flags `SetZN(v)` writes, with their values (R22). -/
def znFlags (v : Byte) : List (Flag × Bool) := [(.z, decide (v = 0)), (.n, v.getLsbD 7)]

/-- The address of the next sequential instruction: the opcode address `+16` the length (40_engine_step.md R85). -/
def nextPC (i : Instr) (s : State) : Word := s.pc + BitVec.ofNat 16 i.length

/-- Where a transfer to `target` ends: at the target, but at the next sequential instruction where the target is the
transferring instruction's own second byte (R85). -/
def transferPC (i : Instr) (target : Word) (s : State) : Word :=
  if target = s.pc + 1 then nextPC i s else target

/-- No operand word at the top of memory: a three-byte instruction does not have its opcode at 0xFFFE (60_exceptions.md
R221). Every other instruction is in range everywhere. -/
def OperandInRange (i : Instr) (s : State) : Prop := i.length = 3 → s.pc ≠ 0xFFFE#16

/-- The state an OutOfRange fault leaves: PC at the snapshot 0xFFFF, Faulted, all else as before the step (R222). -/
def faultedState (s : State) : State := { s with pc := 0xFFFF#16, runState := .faulted ⟨0x10000⟩ }

/-- The instruction completes with A written, the listed flags changed, PC at the next instruction, and nothing else
changed. -/
def CompletesWithA (i : Instr) (s : State) (v : Byte) (flags : List (Flag × Bool)) : Prop :=
  ∃ p', exec i s = .next { s with a := v, p := p', pc := nextPC i s } ∧ FlagsAfter s.p p' flags

/-- The same with X. -/
def CompletesWithX (i : Instr) (s : State) (v : Byte) (flags : List (Flag × Bool)) : Prop :=
  ∃ p', exec i s = .next { s with x := v, p := p', pc := nextPC i s } ∧ FlagsAfter s.p p' flags

/-- The same with Y. -/
def CompletesWithY (i : Instr) (s : State) (v : Byte) (flags : List (Flag × Bool)) : Prop :=
  ∃ p', exec i s = .next { s with y := v, p := p', pc := nextPC i s } ∧ FlagsAfter s.p p' flags

/-- The instruction completes with the listed flags changed, PC at the next instruction, and nothing else changed. -/
def CompletesWithFlags (i : Instr) (s : State) (flags : List (Flag × Bool)) : Prop :=
  ∃ p', exec i s = .next { s with p := p', pc := nextPC i s } ∧ FlagsAfter s.p p' flags

/-- The instruction completes with one byte of memory written, the listed flags changed, PC at the next instruction,
and nothing else changed. -/
def CompletesWithByte (i : Instr) (s : State) (addr : Word) (v : Byte) (flags : List (Flag × Bool)) : Prop :=
  ∃ p' m', exec i s = .next { s with p := p', memory := m', pc := nextPC i s } ∧
    FlagsAfter s.p p' flags ∧ MemoryAfter s.memory m' [(addr, v)]

/-- A result with a function applied to its next state. -/
def mapNext (f : State → State) : Result → Result
  | .next t => .next (f t)
  | .fault r => .fault r
  | .refused r => .refused r

/-- The next state of a result, if it is one. -/
def nextState (r : Result) : Option State :=
  match r with
  | .next t => some t
  | .fault _ => none
  | .refused _ => none

-- Who writes what.

/-- The instructions that write A (the table of 10_state.md R11). -/
def writesA (i : Instr) : Bool :=
  decide (i.mnemonic ∈ [.lda, .txa, .tya, .pla, .adc, .sbc, .and, .ora, .eor]) || decide (i.mode = .accumulator)

/-- The instructions that write X (R11). -/
def writesX (i : Instr) : Bool := decide (i.mnemonic ∈ [.ldx, .tax, .tsx, .inx, .dex])

/-- The instructions that write Y (R11). -/
def writesY (i : Instr) : Bool := decide (i.mnemonic ∈ [.ldy, .tay, .iny, .dey])

/-- The instructions that write SP: TXS and every push and pull (R26). -/
def writesSP (i : Instr) : Bool := decide (i.mnemonic ∈ [.txs, .pha, .pla, .php, .plp, .jsr, .rts])

/-- The instructions R18 lists for Z and, but for PLP, for N. -/
def znWriters : List Mnemonic :=
  [.lda, .ldx, .ldy, .tax, .txa, .tay, .tya, .tsx, .pla, .adc, .sbc, .and, .ora, .eor, .asl, .lsr, .rol, .ror,
   .inc, .dec, .inx, .dex, .iny, .dey, .cmp, .cpx, .cpy, .bit, .plp]

/-- The instructions that write each flag (the table of R18). -/
def flagWriters : Flag → List Mnemonic
  | .c => [.adc, .sbc, .cmp, .cpx, .cpy, .asl, .lsr, .rol, .ror, .sec, .clc, .plp]
  | .z => znWriters
  | .i => [.sei, .cli, .plp]
  | .d => [.sed, .cld, .plp]
  | .b => [.plp]
  | .u => [.plp]
  | .v => [.adc, .sbc, .bit, .clv, .plp]
  | .n => znWriters

/-- The instructions that write one byte at their effective address: the store forms and the read-modify-write forms
on memory (20_memory.md R50). -/
def storesAtOperand (i : Instr) : Bool :=
  decide (i.mnemonic ∈ [.sta, .stx, .sty, .asl, .lsr, .rol, .ror, .inc, .dec]) && decide (i.mode ≠ .accumulator)

/-- The instructions that write to the stack page by a push (R50). -/
def pushes (i : Instr) : Bool := decide (i.mnemonic ∈ [.pha, .php, .jsr])

/-- The instructions after which PC is not simply the next sequential address: the control transfers (10_state.md R14)
and BRK, which halts one past its opcode byte. -/
def redirects (i : Instr) : Bool :=
  decide (i.mnemonic ∈ [.bcc, .bcs, .beq, .bne, .bmi, .bpl, .bvc, .bvs, .jmp, .jsr, .rts, .brk])

/-- The flag and the value on which each branch is taken (46_control_flow.md R176 to R183). -/
def branchCondition : Mnemonic → Option (Flag × Bool)
  | .bcc => some (.c, false)
  | .bcs => some (.c, true)
  | .beq => some (.z, true)
  | .bne => some (.z, false)
  | .bmi => some (.n, true)
  | .bpl => some (.n, false)
  | .bvc => some (.v, false)
  | .bvs => some (.v, true)
  | _ => none

/-- The 106 opcode bytes with no table entry (30_encoding.md R69). -/
def unassignedOpcodes : List Byte :=
  [0x02, 0x03, 0x04, 0x07, 0x0B, 0x0C, 0x0F, 0x12, 0x13, 0x14, 0x17, 0x1A, 0x1B, 0x1C, 0x1F, 0x22, 0x23] ++
  [0x27, 0x2B, 0x2F, 0x32, 0x33, 0x34, 0x37, 0x3A, 0x3B, 0x3C, 0x3F, 0x40, 0x42, 0x43, 0x44, 0x47, 0x4B] ++
  [0x4F, 0x52, 0x53, 0x54, 0x57, 0x5A, 0x5B, 0x5C, 0x5F, 0x62, 0x63, 0x64, 0x67, 0x6B, 0x6F, 0x72, 0x73] ++
  [0x74, 0x77, 0x7A, 0x7B, 0x7C, 0x7F, 0x80, 0x82, 0x83, 0x87, 0x89, 0x8B, 0x8F, 0x92, 0x93, 0x97, 0x9B] ++
  [0x9C, 0x9E, 0x9F, 0xA3, 0xA7, 0xAB, 0xAF, 0xB2, 0xB3, 0xB7, 0xBB, 0xBF, 0xC2, 0xC3, 0xC7, 0xCB, 0xCF] ++
  [0xD2, 0xD3, 0xD4, 0xD7, 0xDA, 0xDB, 0xDC, 0xDF, 0xE2, 0xE3, 0xE7, 0xEB, 0xEF, 0xF2, 0xF3, 0xF4, 0xF7] ++
  [0xFA, 0xFB, 0xFC, 0xFF]

-- Invariants.

/-- The memory image is in its canonical form. -/
def MemoryCanonical (s : State) : Prop := s.memory.wf

/-- In Halted, the byte before PC is the one that halted the engine: 0x00 or a byte with no table entry
(47_stack_flags_system.md R208, 60_exceptions.md R224). -/
def HaltedPastHaltByte (s : State) : Prop :=
  s.runState = .halted → s.readByte (s.pc - 1) = 0x00#8 ∨ opcodeShape (s.readByte (s.pc - 1)) = none

/-- In Faulted, the recorded address is 0x10000, PC is 0xFFFF, and the byte at 0xFFFE is the opcode of a three-byte
instruction (R221, R222). -/
def FaultedAtTop (s : State) : Prop :=
  ∀ e, s.runState = .faulted e →
    e = ⟨0x10000⟩ ∧ s.pc = 0xFFFF#16 ∧ (opcodeShape (s.readByte 0xFFFE#16)).map Shape.operandBytes = some 2

end Sys2Proof.Machine
end

