-- ==== Sys2Proof/Certificates/Slice0/Obligations.lean ====
section
/-! DEFINITION. The statements for the provers. Each docstring names the rule of spec/ it formalises; a clause that
rests on a decision the spec marks as its own (D<n> of 92_eei_decisions.md) or on a log entry says so. In every
statement the state given to `exec` has PC at the opcode byte, and `s.snapshot` is that state with PC one further, the
state operands are resolved in (40_engine_step.md R84). -/

open Sys2Proof Sys2Proof.Machine

-- Encoding.

/-- One word of every family, written out from the spec's encodings, decodes to the instruction it stands for
(30_encoding.md R66, D6). -/
def Obligations.DecodesWordsOfEveryFamily : Prop :=
  decode [0b10101001#8, 0xC0#8] = .ok (.ldaImmediate 0xC0#8, []) ∧
  decode [0b10011101#8, 0x00#8, 0x02#8] = .ok (.staAbsoluteX 0x0200#16, []) ∧
  decode [0b01101001#8, 0x7F#8] = .ok (.adcImmediate 0x7F#8, []) ∧
  decode [0b00101010#8] = .ok (.rolAccumulator, []) ∧
  decode [0b11010001#8, 0x10#8] = .ok (.cmpIndirectY 0x10#8, []) ∧
  decode [0b00100100#8, 0xA0#8] = .ok (.bitZeroPage 0xA0#8, []) ∧
  decode [0b11010000#8, 0xFB#8] = .ok (.bne 0xFB#8, []) ∧
  decode [0b01101100#8, 0xFF#8, 0x30#8] = .ok (.jmpIndirect 0x30FF#16, []) ∧
  decode [0b00100000#8, 0x7F#8, 0x00#8] = .ok (.jsr 0x007F#16, []) ∧
  decode [0b00001000#8] = .ok (.php, []) ∧
  decode [0b00000000#8, 0xEA#8] = .ok (.brk, [0xEA#8])

/-- Decoding the bytes of any instruction, whatever follows them, gives the instruction back and leaves what follows:
no operand bit of any encoding is dropped (R60 to R65). -/
def Obligations.DecodeOfEncodeIsTheInstruction : Prop :=
  ∀ (i : Instr) (rest : List Byte), decode (encode i ++ rest) = .ok (i, rest)

/-- Whatever decodes is the encoding of what it decodes to, followed by the bytes left over: each byte sequence has one
meaning, and no neighbour's encoding is taken for another's (R60, R66). -/
def Obligations.EncodeOfDecodeIsTheBytes : Prop :=
  ∀ (bytes rest : List Byte) (i : Instr), decode bytes = .ok (i, rest) → bytes = encode i ++ rest

/-- The bytes with no table entry are exactly the 106 of R69 (D6, D12), and the table has 150 entries for 150 different
opcode bytes (R66). -/
def Obligations.UnassignedBytesAreThe106 : Prop :=
  (∀ b : Byte, opcodeShape b = none ↔ b ∈ unassignedOpcodes) ∧
  unassignedOpcodes.length = 106 ∧ opcodeTable.length = 150 ∧ (opcodeTable.map Prod.fst).Nodup

-- The step.

/-- In Running, where the bytes at PC decode to an instruction, the step is that instruction's meaning at that state;
the meaning includes the move past the instruction's bytes (R81 to R86). -/
def Obligations.StepRunsTheDecodedInstruction : Prop :=
  ∀ (s : State) (i : Instr) (rest : List Byte), s.runState = .running →
    decode [s.readByte s.pc, s.readByte (s.pc + 1), s.readByte (s.pc + 2)] = .ok (i, rest) → step s = exec i s

/-- In Running, the halt code and any byte with no table entry end the step in Halted with PC one past the byte and
nothing else changed, and from there the engine does not resume (40_engine_step.md R83, 60_exceptions.md R224). -/
def Obligations.HaltCodeOrAbsentHalts : Prop :=
  ∀ s : State, s.runState = .running →
    (s.readByte s.pc = 0x00#8 ∨ opcodeShape (s.readByte s.pc) = none) →
    let halted := { s with pc := s.pc + 1, runState := .halted }
    step s = .next halted ∧ ∀ u, step halted ≠ .next u

/-- In Running the engine always has a next state: no opcode byte and no data make it refuse or get stuck
(30_encoding.md R71, a derived rule). -/
def Obligations.RunningEngineAlwaysSteps : Prop :=
  ∀ s : State, s.runState = .running → ∃ t, step s = .next t

/-- In Halted and in Faulted there is no step (R80, R223); the name of the answer is the model's (log entry 5). -/
def Obligations.NoStepAfterTheEnd : Prop :=
  ∀ s : State, (s.runState = .halted → step s = .fault .stuckHalted) ∧
    ∀ e, s.runState = .faulted e → step s = .fault (.stuckFaulted e)

/-- Started in Running, an instruction ends Halted exactly if it is BRK, and Faulted exactly if it has a word operand
and its opcode is at 0xFFFE, with offending address 0x10000 (R207, R221; D16, D23). -/
def Obligations.InstructionEndsHaltedOrFaultedExactlyWhen : Prop :=
  ∀ (i : Instr) (s t : State), s.runState = .running → exec i s = .next t →
    (t.runState = .halted ↔ i = .brk) ∧
    ∀ e, t.runState = .faulted e ↔ e = ⟨0x10000⟩ ∧ i.length = 3 ∧ s.pc = 0xFFFE#16

/-- Every three-byte instruction with its opcode at 0xFFFE takes the OutOfRange fault: PC at the snapshot 0xFFFF,
Faulted with address 0x10000, every register and all of memory as before (R221, R222; D16, D17, D25). JSR has pushed
nothing and a store has stored nothing. -/
def Obligations.WordOperandAtTopFaults : Prop :=
  ∀ (i : Instr) (s : State), i.length = 3 → s.pc = 0xFFFE#16 → exec i s = .next (faultedState s)

/-- Every instruction but a control transfer and BRK ends with PC at the opcode address plus its length, its run state
unchanged (R85, first consequence; D7). -/
def Obligations.SequentialInstructionsAdvanceByLength : Prop :=
  ∀ (i : Instr) (s : State), OperandInRange i s → redirects i = false →
    ∃ t, exec i s = .next t ∧ t.pc = nextPC i s ∧ t.runState = s.runState

-- Invariants.

/-- Every step keeps the memory image in its canonical form (the model's own form, log entry 1). -/
def Obligations.StepKeepsMemoryCanonical : Prop :=
  ∀ s t : State, MemoryCanonical s → step s = .next t → MemoryCanonical t

/-- Every step keeps what is true of the two terminal run states: in Halted the byte before PC is a halting byte; in
Faulted the recorded address is 0x10000, PC is 0xFFFF and a three-byte opcode stands at 0xFFFE (R208, R221, R222,
R224; D16, D17). -/
def Obligations.StepKeepsEndStatesTruthful : Prop :=
  ∀ s t : State, HaltedPastHaltByte s → FaultedAtTop s → step s = .next t → HaltedPastHaltByte t ∧ FaultedAtTop t

/-- `reset()` establishes the three invariants from every state whose memory image is canonical, whatever the image
and for every SP_RESET (10_state.md R36, 70_reset_and_hazards.md R245, R247; the canonical form is the model's own, log
entry 1). So does the one state `State.reset`, which is the model's choice of the two open parameters: an image that
lists nothing and reads 0x00 (log entry 1), SP_RESET = 0xFD (log entry 2), and the PC that follows (log entry 3). -/
def Obligations.ResetMeetsTheInvariants : Prop :=
  (∀ (spReset : Byte) (s : State), MemoryCanonical s →
    MemoryCanonical (hostReset spReset s) ∧ HaltedPastHaltByte (hostReset spReset s) ∧
      FaultedAtTop (hostReset spReset s)) ∧
  MemoryCanonical State.reset ∧ HaltedPastHaltByte State.reset ∧ FaultedAtTop State.reset

-- Reset and the host's calls.

/-- `reset()` zeroes A, X and Y, in every state and for every SP_RESET (10_state.md R12). -/
def Obligations.ResetZeroesAXY : Prop :=
  ∀ (spReset : Byte) (s : State),
    (hostReset spReset s).a = 0x00#8 ∧ (hostReset spReset s).x = 0x00#8 ∧ (hostReset spReset s).y = 0x00#8

/-- The whole state `reset()` leaves, from every state and for every SP_RESET: P = 0x24, PC from 0xFFFC and 0xFFFD,
Running, memory unchanged (70_reset_and_hazards.md R245; D2, D3, D31). `State.reset` is what it leaves over an image
that lists nothing, for SP_RESET = 0xFD: both are the model's choices (log entries 1 and 2). -/
def Obligations.ResetCallLeavesTheResetState : Prop :=
  (∀ (spReset : Byte) (s : State), hostReset spReset s =
    { a := 0x00#8, x := 0x00#8, y := 0x00#8, sp := spReset, p := 0x24#8,
      pc := wordOfBytes (s.readByte 0xFFFD#16) (s.readByte 0xFFFC#16), runState := .running, memory := s.memory }) ∧
  ∀ s : State, s.memory = [] → hostReset 0xFD#8 s = State.reset

/-- Each mutator overwrites its register with the given value, truncated to the register's width, sets no flag and
changes nothing else; the observers answer the registers (10_state.md R37; D20). -/
def Obligations.MutatorsOverwriteOneRegister : Prop :=
  ∀ (v : Nat) (s : State),
    hostSetA v s = { s with a := BitVec.ofNat 8 (v % 256) } ∧ hostSetX v s = { s with x := BitVec.ofNat 8 (v % 256) } ∧
    hostSetY v s = { s with y := BitVec.ofNat 8 (v % 256) } ∧
    hostSetStatus v s = { s with p := BitVec.ofNat 8 (v % 256) } ∧
    hostSetStackPointer v s = { s with sp := BitVec.ofNat 8 (v % 256) } ∧
    hostSetProgramCounter v s = { s with pc := BitVec.ofNat 16 (v % 65536) } ∧
    getA s = s.a ∧ getX s = s.x ∧ getY s = s.y ∧ getStatus s = s.p ∧ getStackPointer s = s.sp ∧
    getProgramCounter s = s.pc

/-- `run` is the iteration of the engine's step, in both directions: it ends Halted, or Faulted with an address,
exactly in the state of that kind that some number of steps within its fuel reaches; it stops unfinished exactly where
all its fuel is stepped and the engine is still Running; and in Halted or Faulted it takes no step (40_engine_step.md
R87, R88, R89, R90; D19, D20; the fuel, which also stands for the host's cancelling, is the model's, log entry 12). -/
def Obligations.RunIsIteratedStep : Prop :=
  ∀ (fuel : Nat) (s t : State),
    (run fuel s = .halted t ↔ t.runState = .halted ∧ ∃ n, n ≤ fuel ∧ steps n s = .next t) ∧
    (∀ e, run fuel s = .faulted e t ↔ t.runState = .faulted e ∧ ∃ n, n ≤ fuel ∧ steps n s = .next t) ∧
    (run fuel s = .unfinished t ↔ t.runState = .running ∧ steps fuel s = .next t) ∧
    (s.runState = .halted → run fuel s = .halted s) ∧
    ∀ e, s.runState = .faulted e → run fuel s = .faulted e s

-- Memory and the stack.

/-- The bus: a byte written is read back and no other byte changes (20_memory.md R42, R43; D32); a word read at 0xFFFF
raises OutOfRange(0x10000), elsewhere it is little-endian (R44, R45; D16). -/
def Obligations.BusReadsAndWrites : Prop :=
  (∀ (s : State) (a b : Word) (v : Byte),
    (s.writeByte a v).readByte b = if b = a then v else s.readByte b) ∧
  ∀ (s : State) (a : Word),
    s.readWord a = if a = 0xFFFF#16 then .error ⟨0x10000⟩
      else .ok (wordOfBytes (s.readByte (a + 1)) (s.readByte a))

/-- A word push at stack pointer `sp` leaves the high byte at 0x0100 + sp and the low byte at 0x0100 + (sp - 1), each
wrapping inside the stack page, changes no other byte, takes 2 from SP and changes no other register
(10_state.md R28, R30, 20_memory.md R47; D4, D5, D24). -/
def Obligations.PushWordLayout : Prop :=
  ∀ (s : State) (w : Word),
    (∀ a : Word, (s.pushWord w).readByte a =
      if a = (0x0100#16 ||| zext16 s.sp) then highByte w
      else if a = (0x0100#16 ||| zext16 (s.sp - 1)) then lowByte w else s.readByte a) ∧
    { s.pushWord w with memory := s.memory } = { s with sp := s.sp - 2 }

/-- Pushing a word and then pulling gives the word back and restores the stack pointer, for every stack pointer
(R29, R31, the property P3 of 95_test_vectors.md; D5, D24). -/
def Obligations.PullWordUndoesPushWord : Prop :=
  ∀ (s : State) (w : Word),
    (s.pushWord w).pullWord.1 = w ∧ (s.pushWord w).pullWord.2 = { s.pushWord w with sp := s.sp }

-- The flag unit.

/-- `SetZN(v)`: Z exactly when `v` is zero, N is bit 7 of `v`, and no other flag changes (10_state.md R22). -/
def Obligations.SetZNLaw : Prop :=
  ∀ (p v : Byte) (f : Flag),
    flagOf (withZN p v) f =
      match f with
      | .z => decide (v = 0x00#8)
      | .n => v.getLsbD 7
      | .c | .i | .d | .b | .u | .v => flagOf p f

/-- The overflow test is set exactly when the two operands share a sign and the result's sign differs from theirs
(10_state.md R23). -/
def Obligations.OverflowTestLaw : Prop :=
  ∀ a b r : Byte, ovf a b r = true ↔ a.getLsbD 7 = b.getLsbD 7 ∧ r.getLsbD 7 ≠ a.getLsbD 7

-- The addressing modes.

/-- zeroPage and zeroPageX: the operand byte, and the operand byte plus X truncated to 8 bits; two bytes long, no fault
in any state (41_addressing_modes.md R104, R105). -/
def Obligations.ZeroPageAddresses : Prop :=
  ∀ (n : Byte) (s : State),
    (Operand.zeroPage n).resolve s = .ok (zext16 n) ∧ Mode.zeroPage.length = 2 ∧
    (Operand.zeroPageX n).resolve s = .ok (zext16 (n + s.x)) ∧ Mode.zeroPageX.length = 2

/-- The other modes with an address, with `s.pc` the snapshot: immediate is the snapshot itself and its operand byte the
instruction's own; zeroPageY; absolute, its indexed forms and indirect, which raise OutOfRange exactly at snapshot
0xFFFF; the indexed sums wrap at 64 KiB; indirect takes the word at its pointer, the high byte from the start of the
pointer's own page where the pointer's low byte is 0xFF; indirectX and indirectY through a pointer that stays in page
zero; relative (R103, R106 to R113; D13, D14, D15, D16; log entry 6 for the immediate byte). -/
def Obligations.OperandAddresses : Prop :=
  ∀ (n : Byte) (w : Word) (s : State),
    (Operand.immediate n).resolve s = .ok s.pc ∧ (Operand.immediate n).value s = .ok n ∧
    (Operand.zeroPageY n).resolve s = .ok (zext16 (n + s.y)) ∧
    (Operand.absolute w).resolve s = (if s.pc = 0xFFFF#16 then .error ⟨0x10000⟩ else .ok w) ∧
    (Operand.absoluteX w).resolve s = (if s.pc = 0xFFFF#16 then .error ⟨0x10000⟩ else .ok (w + zext16 s.x)) ∧
    (Operand.absoluteY w).resolve s = (if s.pc = 0xFFFF#16 then .error ⟨0x10000⟩ else .ok (w + zext16 s.y)) ∧
    (Operand.indirect w).resolve s = (if s.pc = 0xFFFF#16 then .error ⟨0x10000⟩
      else if lowByte w = 0xFF#8 then .ok (wordOfBytes (s.readByte (w &&& 0xFF00#16)) (s.readByte w))
      else .ok (wordOfBytes (s.readByte (w + 1)) (s.readByte w))) ∧
    (Operand.indirectX n).resolve s =
      .ok (wordOfBytes (s.readByte (zext16 (n + s.x + 1))) (s.readByte (zext16 (n + s.x)))) ∧
    (Operand.indirectY n).resolve s =
      .ok (wordOfBytes (s.readByte (zext16 (n + 1))) (s.readByte (zext16 n)) + zext16 s.y) ∧
    (Operand.relative n).resolve s = .ok (s.pc + 1 + sext16 n)

/-- The operand byte of every mode but immediate is the byte at the effective address (R114). -/
def Obligations.OperandByteIsTheByteAtTheAddress : Prop :=
  ∀ (o : Operand) (s : State), o.mode ≠ .immediate → o.byteAt s = s.readByte (o.address s)

-- Loads, stores, transfers.

/-- LDA, LDX and LDY, in all their forms: the register takes the operand byte, Z and N follow it, PC moves on, nothing
else changes (42_load_store_transfer.md R120, R121, R122). -/
def Obligations.LoadsWriteRegisterZN : Prop :=
  ∀ (i : Instr) (o : Operand) (s : State), i.operand = some o → OperandInRange i s →
    (i.mnemonic = .lda → CompletesWithA i s (o.byteAt s.snapshot) (znFlags (o.byteAt s.snapshot))) ∧
    (i.mnemonic = .ldx → CompletesWithX i s (o.byteAt s.snapshot) (znFlags (o.byteAt s.snapshot))) ∧
    (i.mnemonic = .ldy → CompletesWithY i s (o.byteAt s.snapshot) (znFlags (o.byteAt s.snapshot)))

/-- STA, STX and STY, in all their forms: the byte at the effective address takes the register, no other byte, no flag
and no register but PC changes (R123, R124, R125). -/
def Obligations.StoresWriteOneByte : Prop :=
  ∀ (i : Instr) (o : Operand) (s : State), i.operand = some o → OperandInRange i s →
    (i.mnemonic = .sta → CompletesWithByte i s (o.address s.snapshot) s.a []) ∧
    (i.mnemonic = .stx → CompletesWithByte i s (o.address s.snapshot) s.x []) ∧
    (i.mnemonic = .sty → CompletesWithByte i s (o.address s.snapshot) s.y [])

/-- The six transfers: the destination takes the source, Z and N follow it but for TXS, nothing else changes
(R126 to R131). -/
def Obligations.TransfersCopyRegister : Prop :=
  ∀ s : State,
    CompletesWithX .tax s s.a (znFlags s.a) ∧ CompletesWithA .txa s s.x (znFlags s.x) ∧
    CompletesWithY .tay s s.a (znFlags s.a) ∧ CompletesWithA .tya s s.y (znFlags s.y) ∧
    CompletesWithX .tsx s s.sp (znFlags s.sp) ∧
    exec .txs s = .next { s with sp := s.x, pc := s.pc + 1 }

-- Arithmetic and logic.

/-- ADC, in all its forms: A takes the sum of A, the operand and the carry modulo 256; C exactly when the sum exceeds
255; V by the sign rule; Z and N from the result; no other flag is read or changed, the decimal flag included
(43_arithmetic_logic.md R140, R146, 10_state.md R24). -/
def Obligations.AdcAddsWithCarry : Prop :=
  ∀ (i : Instr) (o : Operand) (s : State), i.operand = some o → i.mnemonic = .adc → OperandInRange i s →
    let m := o.byteAt s.snapshot
    let sum := s.a.toNat + m.toNat + (if s.flag .c = true then 1 else 0)
    let r := BitVec.ofNat 8 sum
    CompletesWithA i s r
      ([(.c, decide (sum > 255)),
        (.v, decide (s.a.getLsbD 7 = m.getLsbD 7 ∧ r.getLsbD 7 ≠ s.a.getLsbD 7))] ++ znFlags r)

/-- SBC, in all its forms: A takes A - M - (1 - C) modulo 256; C exactly when no borrow occurs; V exactly when A and M
differ in sign and the result has the sign of M; Z and N from the result (R141, R146; D8). -/
def Obligations.SbcSubtractsWithBorrow : Prop :=
  ∀ (i : Instr) (o : Operand) (s : State), i.operand = some o → i.mnemonic = .sbc → OperandInRange i s →
    let m := o.byteAt s.snapshot
    let borrow := if s.flag .c = true then 0 else 1
    let r := s.a - m - BitVec.ofNat 8 borrow
    CompletesWithA i s r
      ([(.c, decide (s.a.toNat ≥ m.toNat + borrow)),
        (.v, decide (s.a.getLsbD 7 ≠ m.getLsbD 7 ∧ r.getLsbD 7 = m.getLsbD 7))] ++ znFlags r)

/-- After ADC, V says exactly that the signed sum of A, the operand and the carry lies outside -128 to 127
(R140, R145, R146: the carry-in takes part although it is no argument of the test). -/
def Obligations.AdcOverflowIsSignedOverflow : Prop :=
  ∀ (i : Instr) (o : Operand) (s t : State), i.operand = some o → i.mnemonic = .adc → OperandInRange i s →
    exec i s = .next t →
    let sum := s.a.toInt + (o.byteAt s.snapshot).toInt + (if s.flag .c = true then 1 else 0)
    (t.flag .v = true ↔ sum < -128 ∨ 127 < sum)

/-- AND, ORA and EOR, in all their forms: A takes the bitwise combination, Z and N follow it, C and V and all else stay
(R142, R143, R144). -/
def Obligations.LogicCombinesWithA : Prop :=
  ∀ (i : Instr) (o : Operand) (s : State), i.operand = some o → OperandInRange i s →
    let m := o.byteAt s.snapshot
    (i.mnemonic = .and → CompletesWithA i s (s.a &&& m) (znFlags (s.a &&& m))) ∧
    (i.mnemonic = .ora → CompletesWithA i s (s.a ||| m) (znFlags (s.a ||| m))) ∧
    (i.mnemonic = .eor → CompletesWithA i s (s.a ^^^ m) (znFlags (s.a ^^^ m)))

-- Shifts, rotates, increments, decrements.

/-- ASL, LSR, ROL and ROR of the accumulator, as arithmetic on the old value and the old carry: C takes the bit
shifted out, Z and N follow the result (44_shift_incdec.md R150 to R153, 41_addressing_modes.md R102; D9). -/
def Obligations.ShiftsOfAccumulator : Prop :=
  ∀ s : State,
    let old := s.a.toNat
    let carry := if s.flag .c = true then 1 else 0
    let after := fun (i : Instr) (value : Nat) (out : Bool) =>
      CompletesWithA i s (BitVec.ofNat 8 value) ((.c, out) :: znFlags (BitVec.ofNat 8 value))
    after .aslAccumulator (2 * old) (decide (128 ≤ old)) ∧
    after .lsrAccumulator (old / 2) (decide (old % 2 = 1)) ∧
    after .rolAccumulator (2 * old + carry) (decide (128 ≤ old)) ∧
    after .rorAccumulator (old / 2 + 128 * carry) (decide (old % 2 = 1))

/-- ASL, LSR, ROL and ROR on memory, in all their forms: the byte at the effective address takes the result, C, Z and N
as for the accumulator, no register but PC and no other byte changes (R150 to R153; D9). -/
def Obligations.ShiftsOfMemory : Prop :=
  ∀ (i : Instr) (o : Operand) (s : State), i.operand = some o → OperandInRange i s →
    let ea := o.address s.snapshot
    let old := (s.readByte ea).toNat
    let carry := if s.flag .c = true then 1 else 0
    let after := fun (value : Nat) (out : Bool) =>
      CompletesWithByte i s ea (BitVec.ofNat 8 value) ((.c, out) :: znFlags (BitVec.ofNat 8 value))
    (i.mnemonic = .asl → after (2 * old) (decide (128 ≤ old))) ∧
    (i.mnemonic = .lsr → after (old / 2) (decide (old % 2 = 1))) ∧
    (i.mnemonic = .rol → after (2 * old + carry) (decide (128 ≤ old))) ∧
    (i.mnemonic = .ror → after (old / 2 + 128 * carry) (decide (old % 2 = 1)))

/-- INC and DEC, in all their forms: the byte at the effective address moves by one modulo 256, Z and N follow it, C, V,
every register but PC and every other byte stay (R154, R155). -/
def Obligations.IncrementsOfMemory : Prop :=
  ∀ (i : Instr) (o : Operand) (s : State), i.operand = some o → OperandInRange i s →
    let ea := o.address s.snapshot
    (i.mnemonic = .inc → CompletesWithByte i s ea (s.readByte ea + 1) (znFlags (s.readByte ea + 1))) ∧
    (i.mnemonic = .dec → CompletesWithByte i s ea (s.readByte ea - 1) (znFlags (s.readByte ea - 1)))

/-- INX, DEX, INY and DEY: the register moves by one modulo 256, Z and N follow it, nothing else changes
(R156 to R159). -/
def Obligations.IncrementsOfRegisters : Prop :=
  ∀ s : State,
    CompletesWithX .inx s (s.x + 1) (znFlags (s.x + 1)) ∧ CompletesWithX .dex s (s.x - 1) (znFlags (s.x - 1)) ∧
    CompletesWithY .iny s (s.y + 1) (znFlags (s.y + 1)) ∧ CompletesWithY .dey s (s.y - 1) (znFlags (s.y - 1))

-- Compares and bit test.

/-- CMP, CPX and CPY, in all their forms: C exactly when the register is at least the operand (unsigned), Z exactly when
they are equal, N bit 7 of their difference; no register but PC, no other flag and no memory changes
(45_compare_bit.md R165, R166, R167; D28). -/
def Obligations.ComparesSetFlagsOnly : Prop :=
  ∀ (i : Instr) (o : Operand) (s : State), i.operand = some o → OperandInRange i s →
    let m := o.byteAt s.snapshot
    let after := fun (reg : Byte) =>
      CompletesWithFlags i s
        [(.c, decide (m.toNat ≤ reg.toNat)), (.z, decide (reg = m)), (.n, (reg - m).getLsbD 7)]
    (i.mnemonic = .cmp → after s.a) ∧ (i.mnemonic = .cpx → after s.x) ∧ (i.mnemonic = .cpy → after s.y)

/-- BIT, in both its forms: Z from A AND M, N and V from bits 7 and 6 of M, nothing else changes (R168). -/
def Obligations.BitTestsMemory : Prop :=
  ∀ (i : Instr) (o : Operand) (s : State), i.operand = some o → i.mnemonic = .bit → OperandInRange i s →
    let m := o.byteAt s.snapshot
    CompletesWithFlags i s
      [(.z, decide (s.a &&& m = 0x00#8)), (.n, m.getLsbD 7), (.v, m.getLsbD 6)]

-- Control flow.

/-- The eight branches: PC goes to the opcode address plus 2 plus the signed displacement where the branch's flag has
its value, but to the next instruction where that target is the branch's own second byte; else to the next
instruction. Nothing else changes (46_control_flow.md R175 to R183, R85; D15, D18). -/
def Obligations.BranchesRedirectPC : Prop :=
  ∀ (i : Instr) (d : Byte) (f : Flag) (want : Bool) (s : State),
    i.operand = some (.relative d) → branchCondition i.mnemonic = some (f, want) →
    exec i s = .next { s with
      pc := if s.flag f = want then transferPC i (s.pc + 2 + sext16 d) s else s.pc + 2 }

/-- JMP absolute goes to its operand, JMP indirect to the word its pointer holds, the high byte of which comes from the
start of the pointer's own page where the pointer's low byte is 0xFF; a target that is the jump's own second byte
falls through (R184, R109, R85; D18). -/
def Obligations.JumpsRedirectPC : Prop :=
  ∀ (w : Word) (s : State), s.pc ≠ 0xFFFE#16 →
    exec (.jmpAbsolute w) s = .next { s with pc := transferPC (.jmpAbsolute w) w s } ∧
    exec (.jmpIndirect w) s = .next { s with
      pc := transferPC (.jmpIndirect w)
        (if lowByte w = 0xFF#8 then wordOfBytes (s.readByte (w &&& 0xFF00#16)) (s.readByte w)
          else wordOfBytes (s.readByte (w + 1)) (s.readByte w)) s }

/-- `JMP ($xxFF)` takes the high byte of its target from `$xx00`, not from the next page, wherever the jump stands and
whatever the page holds; the target here is not the jump's own second byte (70_reset_and_hazards.md R251). -/
def Obligations.IndirectJumpWrapsInPage : Prop :=
  ∀ (page : Byte) (s : State), s.pc ≠ 0xFFFE#16 →
    wordOfBytes (s.readByte (wordOfBytes page 0x00#8)) (s.readByte (wordOfBytes page 0xFF#8)) ≠ s.pc + 1 →
    exec (.jmpIndirect (wordOfBytes page 0xFF#8)) s = .next { s with
      pc := wordOfBytes (s.readByte (wordOfBytes page 0x00#8)) (s.readByte (wordOfBytes page 0xFF#8)) }

/-- JSR pushes the address of its third byte, high byte first, then goes to its operand, or falls through where that is
its own second byte; A, X, Y, P and every other byte stay (46_control_flow.md R186, R85; D4, D5, D18, D25). -/
def Obligations.JsrPushesAndJumps : Prop :=
  ∀ (w : Word) (s : State), s.pc ≠ 0xFFFE#16 →
    ∃ m', exec (.jsr w) s = .next { s with sp := s.sp - 2, pc := transferPC (.jsr w) w s, memory := m' } ∧
      MemoryAfter s.memory m'
        [(0x0100#16 ||| zext16 s.sp, highByte (s.pc + 2)), (0x0100#16 ||| zext16 (s.sp - 1), lowByte (s.pc + 2))]

/-- RTS pulls a word, low byte first, and goes to it plus one; nothing but SP and PC changes (R187; D4, D5, D15). -/
def Obligations.RtsPullsAndReturns : Prop :=
  ∀ s : State, exec .rts s = .next { s with
    sp := s.sp + 2
    pc := wordOfBytes (s.readByte (0x0100#16 ||| zext16 (s.sp + 2))) (s.readByte (0x0100#16 ||| zext16 (s.sp + 1))) + 1 }

/-- A JSR and then an RTS, wherever the call goes and wherever the stack pointer stands, end just past the JSR with A,
X, Y, P, SP and the run state as before (R186, R187; D4, D5). -/
def Obligations.RtsReturnsPastItsJsr : Prop :=
  ∀ (w : Word) (s : State), s.pc ≠ 0xFFFE#16 →
    ∃ t u, exec (.jsr w) s = .next t ∧ exec .rts t = .next u ∧
      { u with memory := s.memory } = { s with pc := s.pc + 3 }

-- Stack, flags, NOP, BRK.

/-- PHA and PHP write A, and the packed status byte as stored, at 0x0100 + SP and take one from SP; no flag and no other
byte changes (47_stack_flags_system.md R195, R197; D4, D5, D11). -/
def Obligations.PushesWriteOneStackByte : Prop :=
  ∀ s : State,
    (∃ m', exec .pha s = .next { s with sp := s.sp - 1, pc := s.pc + 1, memory := m' } ∧
      MemoryAfter s.memory m' [(0x0100#16 ||| zext16 s.sp, s.a)]) ∧
    ∃ m', exec .php s = .next { s with sp := s.sp - 1, pc := s.pc + 1, memory := m' } ∧
      MemoryAfter s.memory m' [(0x0100#16 ||| zext16 s.sp, s.p)]

/-- PLA takes A from 0x0100 + (SP + 1) with Z and N from it (D10); PLP takes all eight bits of P from there (D11); each
adds one to SP and changes nothing else (R196, R198; D4, D5). -/
def Obligations.PullsReadOneStackByte : Prop :=
  ∀ s : State,
    let v := s.readByte (0x0100#16 ||| zext16 (s.sp + 1))
    (∃ p', exec .pla s = .next { s with a := v, p := p', sp := s.sp + 1, pc := s.pc + 1 } ∧
      FlagsAfter s.p p' (znFlags v)) ∧
    exec .plp s = .next { s with p := v, sp := s.sp + 1, pc := s.pc + 1 }

/-- PHP followed by PLP restores P and SP exactly, even where P is changed in between (R197, R198; D5, D11). -/
def Obligations.PlpRestoresWhatPhpPushed : Prop :=
  ∀ (s t u : State) (v : Byte), exec .php s = .next t → exec .plp (t.setP v) = .next u →
    { u with memory := s.memory } = { s with pc := s.pc + 2 }

/-- The seven flag instructions: one flag set or cleared, PC one on, nothing else changed (R199 to R205). -/
def Obligations.FlagInstructionsWriteOneFlag : Prop :=
  ∀ s : State,
    CompletesWithFlags .sec s [(.c, true)] ∧ CompletesWithFlags .clc s [(.c, false)] ∧
    CompletesWithFlags .sei s [(.i, true)] ∧ CompletesWithFlags .cli s [(.i, false)] ∧
    CompletesWithFlags .sed s [(.d, true)] ∧ CompletesWithFlags .cld s [(.d, false)] ∧
    CompletesWithFlags .clv s [(.v, false)]

/-- NOP moves PC one on and does nothing else (R206); BRK moves PC one on and halts, pushing nothing and setting no flag
(R207; D23). -/
def Obligations.NopAndBrk : Prop :=
  ∀ s : State,
    exec .nop s = .next { s with pc := s.pc + 1 } ∧
    exec .brk s = .next { s with pc := s.pc + 1, runState := .halted }

-- Whole-machine rules.

/-- Only the instructions R11 and R26 list write A, X, Y and SP: every other instruction, in every form and whether it
completes or faults, leaves the register as it was. -/
def Obligations.OnlyListedInstructionsWriteRegisters : Prop :=
  ∀ (i : Instr) (s t : State), exec i s = .next t →
    (writesA i = false → t.a = s.a) ∧ (writesX i = false → t.x = s.x) ∧ (writesY i = false → t.y = s.y) ∧
    (writesSP i = false → t.sp = s.sp)

/-- Only the instructions R18 lists write each flag. -/
def Obligations.OnlyListedInstructionsWriteFlags : Prop :=
  ∀ (i : Instr) (f : Flag) (s t : State), exec i s = .next t → i.mnemonic ∉ flagWriters f → t.flag f = s.flag f

/-- The interrupt-disable, decimal, break and unused flags are inert: an instruction that neither writes the flag nor
is PHP does the same whatever the flag holds, and the flag comes through unchanged. So ADC and SBC are binary whatever
D holds, and I masks nothing (10_state.md R18, R24, R25). -/
def Obligations.InertFlagsChangeNothing : Prop :=
  ∀ (i : Instr) (f : Flag) (v : Bool) (s : State), f ∈ [Flag.i, Flag.d, Flag.b, Flag.u] →
    i.mnemonic ∉ flagWriters f → i.mnemonic ≠ .php →
    exec i (s.setFlag f v) = mapNext (fun t => t.setFlag f v) (exec i s)

/-- An instruction that neither stores at its operand nor pushes leaves every byte of memory as it was
(20_memory.md R50). -/
def Obligations.OtherInstructionsLeaveMemory : Prop :=
  ∀ (i : Instr) (s t : State), storesAtOperand i = false → pushes i = false → exec i s = .next t →
    ∀ a : Word, t.readByte a = s.readByte a

/-- A storing instruction, completed or faulted, leaves every byte but the one at its effective address, and every
register but P and PC, as they were (R50, R123 to R125, R150 to R155). -/
def Obligations.StoresLeaveEveryOtherByte : Prop :=
  ∀ (i : Instr) (o : Operand) (s t : State), storesAtOperand i = true → i.operand = some o → exec i s = .next t →
    (∀ a : Word, a ≠ o.address s.snapshot → t.readByte a = s.readByte a) ∧
    t.a = s.a ∧ t.x = s.x ∧ t.y = s.y ∧ t.sp = s.sp

/-- A pushing instruction writes inside the stack page only, at the one or two addresses SP designates (R26, R28, R50;
D4, D5): PHA and PHP at 0x0100 + SP, JSR there and at 0x0100 + (SP - 1). -/
def Obligations.PushesLeaveEveryOtherByte : Prop :=
  ∀ (i : Instr) (s t : State), pushes i = true → exec i s = .next t →
    ∀ a : Word, a ≠ (0x0100#16 ||| zext16 s.sp) →
      (i.mnemonic = .jsr → a ≠ (0x0100#16 ||| zext16 (s.sp - 1))) → t.readByte a = s.readByte a

-- The launch.

/-- The machine starts from any memory image whatever and any SP_RESET: launched over `MEM_INIT`, every address reads as
the host's image gives it, the image is canonical, PC is the word the image holds at the reset vector, P is 0x24, SP is
SP_RESET, the engine is Running, and another `reset()` with the same SP_RESET changes nothing (10_state.md R36,
70_reset_and_hazards.md R245, R246, R247; D2, D3, D21, D31). No byte is assumed zero. -/
def Obligations.LaunchTakesAnyImage : Prop :=
  ∀ (spReset : Byte) (memInit : Word → Byte),
    let s := launch spReset memInit
    (∀ a : Word, s.readByte a = memInit a) ∧ MemoryCanonical s ∧
    s.pc = wordOfBytes (memInit 0xFFFD#16) (memInit 0xFFFC#16) ∧ s.p = 0x24#8 ∧ s.sp = spReset ∧
    s.a = 0x00#8 ∧ s.x = 0x00#8 ∧ s.y = 0x00#8 ∧ s.runState = .running ∧ hostReset spReset s = s
end

