-- ==== Sys2Proof/Laws/Bits.lean ====
section
/-! SUPPORT. Byte order: taking a word apart and putting it together (00_scope.md R7). -/

namespace Sys2Proof

theorem toNat_wordOfBytes (hi lo : Byte) : (wordOfBytes hi lo).toNat = hi.toNat * 256 + lo.toNat := by
  have h : (wordOfBytes hi lo).toNat = hi.toNat <<< 8 ||| lo.toNat := BitVec.toNat_append hi lo
  rw [h, ← Nat.shiftLeft_add_eq_or_of_lt lo.isLt, Nat.shiftLeft_eq]

theorem toNat_lowByte (w : Word) : (lowByte w).toNat = w.toNat % 256 := by
  simp [lowByte]

theorem toNat_highByte (w : Word) : (highByte w).toNat = w.toNat / 256 := by
  have := w.isLt
  simp [highByte, Nat.shiftRight_eq_div_pow]
  omega

@[simp] theorem lowByte_wordOfBytes (hi lo : Byte) : lowByte (wordOfBytes hi lo) = lo := by
  apply BitVec.eq_of_toNat_eq
  have := lo.isLt
  rw [toNat_lowByte, toNat_wordOfBytes]
  omega

@[simp] theorem highByte_wordOfBytes (hi lo : Byte) : highByte (wordOfBytes hi lo) = hi := by
  apply BitVec.eq_of_toNat_eq
  have := lo.isLt
  rw [toNat_highByte, toNat_wordOfBytes]
  omega

@[simp] theorem wordOfBytes_highByte_lowByte (w : Word) : wordOfBytes (highByte w) (lowByte w) = w := by
  apply BitVec.eq_of_toNat_eq
  rw [toNat_wordOfBytes, toNat_highByte, toNat_lowByte]
  omega

theorem toNat_zext16 (x : Byte) : (zext16 x).toNat = x.toNat := by
  have := x.isLt
  simp only [zext16, BitVec.toNat_setWidth]
  omega

theorem zext16_injective {x y : Byte} (h : zext16 x = zext16 y) : x = y := by
  apply BitVec.eq_of_toNat_eq
  rw [← toNat_zext16 x, ← toNat_zext16 y, h]

end Sys2Proof
end

