-- ==== Sys2Proof/Laws/Decode.lean ====
section
/-! SUPPORT. How the decoder of a list of bytes and the decoder of the step's window agree. -/

namespace Sys2Proof

/-- On three bytes the list decoder gives what the window decoder gives. -/
theorem decode_three (b0 b1 b2 : Byte) :
    decode [b0, b1, b2] =
      match opcodeShape b0 with
      | none => .error (.unassigned b0)
      | some shape => .ok (shape.complete b1 b2, [b1, b2].drop shape.operandBytes) := by
  cases h : opcodeShape b0 with
  | none => simp [decode, h]
  | some shape => cases shape <;> simp [decode, h, Shape.operandBytes]

/-- The window decoder answers the instruction the list decoder reads from the same three bytes. -/
theorem decodeWindow_of_decode {b0 b1 b2 : Byte} {i : Instr} {rest : List Byte}
    (h : decode [b0, b1, b2] = .ok (i, rest)) : decodeWindow b0 b1 b2 = some i := by
  rw [decode_three] at h
  cases hs : opcodeShape b0 with
  | none => simp [hs] at h
  | some shape =>
    simp only [hs, Except.ok.injEq, Prod.mk.injEq] at h
    simp [decodeWindow, hs, h.1]

/-- The window decoder answers nothing exactly for a byte with no table entry (30_encoding.md R69). -/
theorem decodeWindow_eq_none {b0 b1 b2 : Byte} : decodeWindow b0 b1 b2 = none ↔ opcodeShape b0 = none := by
  simp [decodeWindow]

end Sys2Proof
end

