-- ==== Sys2Proof/Laws/Flags.lean ====
section
/-! SUPPORT. The laws of the packed status byte (10_state.md R16, R17, R22). -/

namespace Sys2Proof.Machine

theorem flagBit_lt (f : Flag) : flagBit f < 8 := by cases f <;> decide

theorem flagBit_injective {f g : Flag} (h : flagBit f = flagBit g) : f = g := by
  cases f <;> cases g <;> first | rfl | (exact absurd h (by decide))

theorem flagMask_bit (f g : Flag) (h : flagBit g < 8) : (flagMask f)[flagBit g] = decide (f = g) := by
  rw [← BitVec.getLsbD_eq_getElem]
  cases f <;> cases g <;> decide

/-- Every flag after one of them was written: the written one has its new value, the others their old one. -/
theorem flagOf_withFlag (p : Byte) (f g : Flag) (b : Bool) :
    flagOf (withFlag p f b) g = if g = f then b else flagOf p g := by
  have hg := flagBit_lt g
  by_cases h : g = f
  · subst h
    cases b <;> simp [flagOf, withFlag, flagMask_bit, hg]
  · have h' : ¬ f = g := fun e => h e.symm
    cases b <;> simp [flagOf, withFlag, flagMask_bit, hg, h, h']

/-- Every flag after `SetZN(v)` (R22). -/
theorem flagOf_withZN (p v : Byte) (g : Flag) :
    flagOf (withZN p v) g = if g = .n then v.getLsbD 7 else if g = .z then v == 0 else flagOf p g := by
  simp [withZN, flagOf_withFlag]

/-- Writing two different flags commutes. -/
theorem withFlag_comm (p : Byte) {f g : Flag} (b c : Bool) (h : f ≠ g) :
    withFlag (withFlag p f b) g c = withFlag (withFlag p g c) f b := by
  apply BitVec.eq_of_getLsbD_eq
  intro i hi
  have key : ∀ k : Flag, flagOf (withFlag (withFlag p f b) g c) k = flagOf (withFlag (withFlag p g c) f b) k := by
    intro k
    simp only [flagOf_withFlag]
    by_cases h1 : k = f
    · subst h1
      simp [h]
    · simp [h1]
  have hk : ∃ k : Flag, flagBit k = i := by
    match i, hi with
    | 0, _ => exact ⟨.c, rfl⟩
    | 1, _ => exact ⟨.z, rfl⟩
    | 2, _ => exact ⟨.i, rfl⟩
    | 3, _ => exact ⟨.d, rfl⟩
    | 4, _ => exact ⟨.b, rfl⟩
    | 5, _ => exact ⟨.u, rfl⟩
    | 6, _ => exact ⟨.v, rfl⟩
    | 7, _ => exact ⟨.n, rfl⟩
  obtain ⟨k, rfl⟩ := hk
  exact key k

end Sys2Proof.Machine
end

