-- ==== Sys2Proof/Laws/Memory.lean ====
section
/-! SUPPORT. The laws of the memory image: reading after writing (20_memory.md R43), and that a write keeps the
canonical form. The reading laws hold of every list of cells, canonical or not. -/

namespace Sys2Proof.Machine

theorem Memory.read_erase_same (m : Memory) (a : Nat) : (m.erase a).read a = config.unlistedByte := by
  induction m with
  | nil => rfl
  | cons cell rest ih =>
    by_cases h : cell.1 = a
    · simpa [Memory.erase, List.filter_cons, h] using ih
    · have h' : ¬ a = cell.1 := fun e => h e.symm
      simpa [Memory.erase, List.filter_cons, h, Memory.read, h'] using ih

theorem Memory.read_erase_other (m : Memory) {a b : Nat} (hab : b ≠ a) : (m.erase a).read b = m.read b := by
  induction m with
  | nil => rfl
  | cons cell rest ih =>
    by_cases h : cell.1 = a
    · have h' : b ≠ cell.1 := fun e => hab (e.trans h)
      simpa [Memory.erase, List.filter_cons, h, Memory.read, hab] using ih
    · by_cases hb : b = cell.1
      · simp [Memory.erase, h, Memory.read, hb]
      · simpa [Memory.erase, List.filter_cons, h, Memory.read, hb] using ih

theorem Memory.read_insert_same (m : Memory) (a : Nat) (v : Byte) (h : ∀ c ∈ m, c.1 ≠ a) :
    (m.insert a v).read a = v := by
  induction m with
  | nil => simp [Memory.insert, Memory.read]
  | cons cell rest ih =>
    have hne : ¬ a = cell.1 := fun e => h cell (by simp) e.symm
    by_cases hlt : a < cell.1
    · simp [Memory.insert, hlt, Memory.read]
    · simpa [Memory.insert, hlt, Memory.read, hne] using ih fun c hc => h c (by simp [hc])

theorem Memory.read_insert_other (m : Memory) {a b : Nat} (v : Byte) (hab : b ≠ a) :
    (m.insert a v).read b = m.read b := by
  induction m with
  | nil => simp [Memory.insert, Memory.read, hab]
  | cons cell rest ih =>
    by_cases hlt : a < cell.1
    · simp [Memory.insert, hlt, Memory.read, hab]
    · by_cases hb : b = cell.1
      · simp [Memory.insert, hlt, Memory.read, hb]
      · simpa [Memory.insert, hlt, Memory.read, hb] using ih

theorem Memory.erase_ne (m : Memory) (a : Nat) : ∀ c ∈ m.erase a, c.1 ≠ a := by
  intro c hc
  simpa using (List.mem_filter.mp hc).2

/-- After a write the written address reads the written byte (R43). -/
@[simp] theorem Memory.read_write_same (m : Memory) (a : Nat) (v : Byte) : (m.write a v).read a = v := by
  by_cases h : v = config.unlistedByte
  · simp [Memory.write, h, Memory.read_erase_same]
  · simp [Memory.write, h, Memory.read_insert_same _ _ _ (m.erase_ne a)]

/-- After a write every other address reads as before (R43). -/
theorem Memory.read_write_other (m : Memory) {a b : Nat} (v : Byte) (hab : b ≠ a) :
    (m.write a v).read b = m.read b := by
  by_cases h : v = config.unlistedByte
  · simp [Memory.write, h, m.read_erase_other hab]
  · simp [Memory.write, h, Memory.read_insert_other _ _ hab, m.read_erase_other hab]

theorem Memory.mem_insert {m : Memory} {a : Nat} {v : Byte} {c : Host.Cell} :
    c ∈ m.insert a v ↔ c = (a, v) ∨ c ∈ m := by
  induction m with
  | nil => simp [Memory.insert]
  | cons cell rest ih =>
    by_cases hlt : a < cell.1
    · simp [Memory.insert, hlt]
    · simp [Memory.insert, hlt, ih, or_left_comm]

theorem Memory.insert_sorted {m : Memory} {a : Nat} {v : Byte} (hs : m.Pairwise (fun c d => c.1 < d.1))
    (hne : ∀ c ∈ m, c.1 ≠ a) : (m.insert a v).Pairwise (fun c d => c.1 < d.1) := by
  induction m with
  | nil => simp [Memory.insert]
  | cons cell rest ih =>
    obtain ⟨hhead, htail⟩ := List.pairwise_cons.mp hs
    have hcell : cell.1 ≠ a := hne cell (by simp)
    by_cases hlt : a < cell.1
    · simp only [Memory.insert, hlt, if_true]
      refine List.pairwise_cons.mpr ⟨?_, hs⟩
      intro c hc
      rcases List.mem_cons.mp hc with rfl | hc
      · exact hlt
      · exact Nat.lt_trans hlt (hhead c hc)
    · simp only [Memory.insert, hlt, if_false]
      refine List.pairwise_cons.mpr ⟨?_, ih htail fun c hc => hne c (by simp [hc])⟩
      intro c hc
      rcases Memory.mem_insert.mp hc with rfl | hc
      · show cell.1 < a
        omega
      · exact hhead c hc

/-- Every write to an address of the image keeps the canonical form. -/
theorem Memory.wf_write {m : Memory} {a : Nat} {v : Byte} (h : m.wf) (ha : a < memorySize) : (m.write a v).wf := by
  obtain ⟨hs, hc⟩ := h
  have hes : (m.erase a).Pairwise (fun c d => c.1 < d.1) := hs.filter _
  have hec : ∀ c ∈ m.erase a, c.1 < memorySize ∧ c.2 ≠ config.unlistedByte :=
    fun c hm => hc c (List.mem_filter.mp hm).1
  by_cases hv : v = config.unlistedByte
  · simp only [Memory.write, hv, if_true]
    exact ⟨hes, hec⟩
  · simp only [Memory.write, hv, if_false]
    refine ⟨Memory.insert_sorted hes (m.erase_ne a), fun c hm => ?_⟩
    rcases Memory.mem_insert.mp hm with rfl | hm
    · exact ⟨ha, hv⟩
    · exact hec c hm

/-- What an image made of bytes reads as. -/
theorem Memory.read_ofBytes (base : Nat) (bytes : List Byte) (a : Nat) :
    (Memory.ofBytes base bytes).read a = if base ≤ a then bytes.getD (a - base) config.unlistedByte
      else config.unlistedByte := by
  induction bytes generalizing base with
  | nil => simp [Memory.ofBytes, Memory.read]
  | cons v rest ih =>
    have key : a ≠ base → (Memory.ofBytes (base + 1) rest).read a =
        if base ≤ a then (v :: rest).getD (a - base) config.unlistedByte else config.unlistedByte := by
      intro hne
      rw [ih]
      by_cases h : base ≤ a
      · have e : a - base = a - (base + 1) + 1 := by omega
        rw [if_pos h, if_pos (by omega), e, List.getD_cons_succ]
      · rw [if_neg h, if_neg (by omega)]
    have same : ∀ w : Byte, (if base ≤ base then (w :: rest).getD (base - base) config.unlistedByte
        else config.unlistedByte) = w := by simp
    by_cases hv : v = config.unlistedByte
    · simp only [Memory.ofBytes, hv, if_true]
      by_cases ha : a = base
      · subst ha
        rw [same, ih, if_neg (by omega)]
      · rw [← hv]
        exact hv ▸ key ha
    · simp only [Memory.ofBytes, hv, if_false, Memory.read]
      by_cases ha : a = base
      · subst ha
        rw [if_pos rfl, same]
      · rw [if_neg ha]
        exact key ha

theorem Memory.mem_ofBytes {base : Nat} {bytes : List Byte} {c : Host.Cell} (h : c ∈ Memory.ofBytes base bytes) :
    base ≤ c.1 ∧ c.1 < base + bytes.length ∧ c.2 ≠ config.unlistedByte := by
  induction bytes generalizing base with
  | nil => simp [Memory.ofBytes] at h
  | cons v rest ih =>
    have later : c ∈ Memory.ofBytes (base + 1) rest →
        base ≤ c.1 ∧ c.1 < base + (v :: rest).length ∧ c.2 ≠ config.unlistedByte := by
      intro hc
      obtain ⟨h1, h2, h3⟩ := ih hc
      exact ⟨by omega, by rw [List.length_cons]; omega, h3⟩
    by_cases hv : v = config.unlistedByte
    · exact later (by simpa [Memory.ofBytes, hv] using h)
    · simp only [Memory.ofBytes, hv, if_false, List.mem_cons] at h
      rcases h with rfl | h
      · exact ⟨Nat.le_refl _, by simp, hv⟩
      · exact later h

/-- An image made of bytes that end inside the address space is canonical. -/
theorem Memory.wf_ofBytes {base : Nat} {bytes : List Byte} (h : base + bytes.length ≤ memorySize) :
    (Memory.ofBytes base bytes).wf := by
  refine ⟨?_, fun c hc => ?_⟩
  · clear h
    induction bytes generalizing base with
    | nil => exact List.Pairwise.nil
    | cons v rest ih =>
      by_cases hv : v = config.unlistedByte
      · simpa [Memory.ofBytes, hv] using ih
      · simp only [Memory.ofBytes, hv, if_false]
        exact List.pairwise_cons.mpr ⟨fun c hc => (Memory.mem_ofBytes hc).1, ih⟩
  · obtain ⟨_, h2, h3⟩ := Memory.mem_ofBytes hc
    exact ⟨Nat.lt_of_lt_of_le h2 h, h3⟩

theorem Memory.ofImage_eq (memInit : Word → Byte) :
    Memory.ofImage memInit = Memory.ofBytes 0 ((List.range memorySize).map fun a => memInit (BitVec.ofNat 16 a)) := by
  unfold Memory.ofImage
  rfl

/-- The host's image reads as the host's function says, at every address (70_reset_and_hazards.md R247). -/
theorem Memory.read_ofImage (memInit : Word → Byte) (a : Word) :
    (Memory.ofImage memInit).read a.toNat = memInit a := by
  have h : a.toNat < memorySize := by simpa [memorySize] using a.isLt
  have hget : ((List.range memorySize).map fun k => memInit (BitVec.ofNat 16 k))[a.toNat]? = some (memInit a) := by
    rw [List.getElem?_map, List.getElem?_range h]
    simp
  rw [Memory.ofImage_eq, Memory.read_ofBytes, if_pos (Nat.zero_le _), Nat.sub_zero, List.getD_eq_getElem?_getD, hget]
  rfl

theorem Memory.wf_ofImage (memInit : Word → Byte) : (Memory.ofImage memInit).wf := by
  rw [Memory.ofImage_eq]
  exact Memory.wf_ofBytes (by simp)

end Sys2Proof.Machine
end

