-- ==== Sys2Proof/Laws/State.lean ====
section
/-! SUPPORT. The fields of a state after each named register write: one lemma per field per write. -/

namespace Sys2Proof.Machine

section setA
variable (s : State) (v : Byte)
@[simp] theorem State.setA_a : (s.setA v).a = v := rfl
@[simp] theorem State.setA_x : (s.setA v).x = s.x := rfl
@[simp] theorem State.setA_y : (s.setA v).y = s.y := rfl
@[simp] theorem State.setA_sp : (s.setA v).sp = s.sp := rfl
@[simp] theorem State.setA_p : (s.setA v).p = s.p := rfl
@[simp] theorem State.setA_pc : (s.setA v).pc = s.pc := rfl
@[simp] theorem State.setA_runState : (s.setA v).runState = s.runState := rfl
@[simp] theorem State.setA_memory : (s.setA v).memory = s.memory := rfl
end setA

section setX
variable (s : State) (v : Byte)
@[simp] theorem State.setX_a : (s.setX v).a = s.a := rfl
@[simp] theorem State.setX_x : (s.setX v).x = v := rfl
@[simp] theorem State.setX_y : (s.setX v).y = s.y := rfl
@[simp] theorem State.setX_sp : (s.setX v).sp = s.sp := rfl
@[simp] theorem State.setX_p : (s.setX v).p = s.p := rfl
@[simp] theorem State.setX_pc : (s.setX v).pc = s.pc := rfl
@[simp] theorem State.setX_runState : (s.setX v).runState = s.runState := rfl
@[simp] theorem State.setX_memory : (s.setX v).memory = s.memory := rfl
end setX

section setY
variable (s : State) (v : Byte)
@[simp] theorem State.setY_a : (s.setY v).a = s.a := rfl
@[simp] theorem State.setY_x : (s.setY v).x = s.x := rfl
@[simp] theorem State.setY_y : (s.setY v).y = v := rfl
@[simp] theorem State.setY_sp : (s.setY v).sp = s.sp := rfl
@[simp] theorem State.setY_p : (s.setY v).p = s.p := rfl
@[simp] theorem State.setY_pc : (s.setY v).pc = s.pc := rfl
@[simp] theorem State.setY_runState : (s.setY v).runState = s.runState := rfl
@[simp] theorem State.setY_memory : (s.setY v).memory = s.memory := rfl
end setY

section setSP
variable (s : State) (v : Byte)
@[simp] theorem State.setSP_a : (s.setSP v).a = s.a := rfl
@[simp] theorem State.setSP_x : (s.setSP v).x = s.x := rfl
@[simp] theorem State.setSP_y : (s.setSP v).y = s.y := rfl
@[simp] theorem State.setSP_sp : (s.setSP v).sp = v := rfl
@[simp] theorem State.setSP_p : (s.setSP v).p = s.p := rfl
@[simp] theorem State.setSP_pc : (s.setSP v).pc = s.pc := rfl
@[simp] theorem State.setSP_runState : (s.setSP v).runState = s.runState := rfl
@[simp] theorem State.setSP_memory : (s.setSP v).memory = s.memory := rfl
end setSP

section setP
variable (s : State) (v : Byte)
@[simp] theorem State.setP_a : (s.setP v).a = s.a := rfl
@[simp] theorem State.setP_x : (s.setP v).x = s.x := rfl
@[simp] theorem State.setP_y : (s.setP v).y = s.y := rfl
@[simp] theorem State.setP_sp : (s.setP v).sp = s.sp := rfl
@[simp] theorem State.setP_p : (s.setP v).p = v := rfl
@[simp] theorem State.setP_pc : (s.setP v).pc = s.pc := rfl
@[simp] theorem State.setP_runState : (s.setP v).runState = s.runState := rfl
@[simp] theorem State.setP_memory : (s.setP v).memory = s.memory := rfl
end setP

section setPC
variable (s : State) (v : Word)
@[simp] theorem State.setPC_a : (s.setPC v).a = s.a := rfl
@[simp] theorem State.setPC_x : (s.setPC v).x = s.x := rfl
@[simp] theorem State.setPC_y : (s.setPC v).y = s.y := rfl
@[simp] theorem State.setPC_sp : (s.setPC v).sp = s.sp := rfl
@[simp] theorem State.setPC_p : (s.setPC v).p = s.p := rfl
@[simp] theorem State.setPC_pc : (s.setPC v).pc = v := rfl
@[simp] theorem State.setPC_runState : (s.setPC v).runState = s.runState := rfl
@[simp] theorem State.setPC_memory : (s.setPC v).memory = s.memory := rfl
end setPC

section setRunState
variable (s : State) (v : RunState)
@[simp] theorem State.setRunState_a : (s.setRunState v).a = s.a := rfl
@[simp] theorem State.setRunState_x : (s.setRunState v).x = s.x := rfl
@[simp] theorem State.setRunState_y : (s.setRunState v).y = s.y := rfl
@[simp] theorem State.setRunState_sp : (s.setRunState v).sp = s.sp := rfl
@[simp] theorem State.setRunState_p : (s.setRunState v).p = s.p := rfl
@[simp] theorem State.setRunState_pc : (s.setRunState v).pc = s.pc := rfl
@[simp] theorem State.setRunState_runState : (s.setRunState v).runState = v := rfl
@[simp] theorem State.setRunState_memory : (s.setRunState v).memory = s.memory := rfl
end setRunState

section setMemory
variable (s : State) (v : Memory)
@[simp] theorem State.setMemory_a : (s.setMemory v).a = s.a := rfl
@[simp] theorem State.setMemory_x : (s.setMemory v).x = s.x := rfl
@[simp] theorem State.setMemory_y : (s.setMemory v).y = s.y := rfl
@[simp] theorem State.setMemory_sp : (s.setMemory v).sp = s.sp := rfl
@[simp] theorem State.setMemory_p : (s.setMemory v).p = s.p := rfl
@[simp] theorem State.setMemory_pc : (s.setMemory v).pc = s.pc := rfl
@[simp] theorem State.setMemory_runState : (s.setMemory v).runState = s.runState := rfl
@[simp] theorem State.setMemory_memory : (s.setMemory v).memory = v := rfl
end setMemory

-- The operations built from one register write.
section derived
variable (s : State) (f : Flag) (b : Bool) (v : Byte) (w : Word)
@[simp] theorem State.setFlag_a : (s.setFlag f b).a = s.a := rfl
@[simp] theorem State.setFlag_x : (s.setFlag f b).x = s.x := rfl
@[simp] theorem State.setFlag_y : (s.setFlag f b).y = s.y := rfl
@[simp] theorem State.setFlag_sp : (s.setFlag f b).sp = s.sp := rfl
@[simp] theorem State.setFlag_p : (s.setFlag f b).p = withFlag s.p f b := rfl
@[simp] theorem State.setFlag_pc : (s.setFlag f b).pc = s.pc := rfl
@[simp] theorem State.setFlag_runState : (s.setFlag f b).runState = s.runState := rfl
@[simp] theorem State.setFlag_memory : (s.setFlag f b).memory = s.memory := rfl
@[simp] theorem State.setZN_a : (s.setZN v).a = s.a := rfl
@[simp] theorem State.setZN_x : (s.setZN v).x = s.x := rfl
@[simp] theorem State.setZN_y : (s.setZN v).y = s.y := rfl
@[simp] theorem State.setZN_sp : (s.setZN v).sp = s.sp := rfl
@[simp] theorem State.setZN_p : (s.setZN v).p = withZN s.p v := rfl
@[simp] theorem State.setZN_pc : (s.setZN v).pc = s.pc := rfl
@[simp] theorem State.setZN_runState : (s.setZN v).runState = s.runState := rfl
@[simp] theorem State.setZN_memory : (s.setZN v).memory = s.memory := rfl
@[simp] theorem State.writeByte_a : (s.writeByte w v).a = s.a := rfl
@[simp] theorem State.writeByte_x : (s.writeByte w v).x = s.x := rfl
@[simp] theorem State.writeByte_y : (s.writeByte w v).y = s.y := rfl
@[simp] theorem State.writeByte_sp : (s.writeByte w v).sp = s.sp := rfl
@[simp] theorem State.writeByte_p : (s.writeByte w v).p = s.p := rfl
@[simp] theorem State.writeByte_pc : (s.writeByte w v).pc = s.pc := rfl
@[simp] theorem State.writeByte_runState : (s.writeByte w v).runState = s.runState := rfl
@[simp] theorem State.writeByte_memory : (s.writeByte w v).memory = s.memory.write w.toNat v := rfl
@[simp] theorem State.snapshot_a : (s.snapshot).a = s.a := rfl
@[simp] theorem State.snapshot_x : (s.snapshot).x = s.x := rfl
@[simp] theorem State.snapshot_y : (s.snapshot).y = s.y := rfl
@[simp] theorem State.snapshot_sp : (s.snapshot).sp = s.sp := rfl
@[simp] theorem State.snapshot_p : (s.snapshot).p = s.p := rfl
@[simp] theorem State.snapshot_pc : (s.snapshot).pc = s.pc + 1 := rfl
@[simp] theorem State.snapshot_runState : (s.snapshot).runState = s.runState := rfl
@[simp] theorem State.snapshot_memory : (s.snapshot).memory = s.memory := rfl
@[simp] theorem State.halt_a : (s.halt).a = s.a := rfl
@[simp] theorem State.halt_x : (s.halt).x = s.x := rfl
@[simp] theorem State.halt_y : (s.halt).y = s.y := rfl
@[simp] theorem State.halt_sp : (s.halt).sp = s.sp := rfl
@[simp] theorem State.halt_p : (s.halt).p = s.p := rfl
@[simp] theorem State.halt_pc : (s.halt).pc = s.pc := rfl
@[simp] theorem State.halt_runState : (s.halt).runState = .halted := rfl
@[simp] theorem State.halt_memory : (s.halt).memory = s.memory := rfl
end derived

section afterReset
variable (spReset : Byte) (image : Memory)
@[simp] theorem State.afterReset_a : (State.afterReset spReset image).a = 0x00 := rfl
@[simp] theorem State.afterReset_x : (State.afterReset spReset image).x = 0x00 := rfl
@[simp] theorem State.afterReset_y : (State.afterReset spReset image).y = 0x00 := rfl
@[simp] theorem State.afterReset_sp : (State.afterReset spReset image).sp = spReset := rfl
@[simp] theorem State.afterReset_p : (State.afterReset spReset image).p = 0x24 := rfl
@[simp] theorem State.afterReset_pc : (State.afterReset spReset image).pc =
    wordOfBytes (image.read (config.resetVector + 1).toNat) (image.read config.resetVector.toNat) := rfl
@[simp] theorem State.afterReset_runState : (State.afterReset spReset image).runState = .running := rfl
@[simp] theorem State.afterReset_memory : (State.afterReset spReset image).memory = image := rfl
end afterReset

end Sys2Proof.Machine
end

