-- ==== Sys2Proof/Laws/Ops.lean ====
section
/-! SUPPORT. What each shared operation of Machine/Ops.lean can do, said once. -/

namespace Sys2Proof.Machine

/-- The byte written is read back, and every other address reads as before (20_memory.md R43). -/
theorem State.readByte_writeByte (s : State) (a b : Word) (v : Byte) :
    (s.writeByte a v).readByte b = if b = a then v else s.readByte b := by
  by_cases h : b = a
  · simp [State.readByte, h]
  · have h' : b.toNat ≠ a.toNat := fun e => h (BitVec.eq_of_toNat_eq e)
    simp [State.readByte, h, Memory.read_write_other _ _ h']

/-- A byte read sees nothing but the memory image. -/
theorem State.readByte_congr {s t : State} (h : t.memory = s.memory) (a : Word) : t.readByte a = s.readByte a := by
  simp [State.readByte, h]

theorem State.writeByte_wf {s : State} {a : Word} {v : Byte} (h : s.memory.wf) : (s.writeByte a v).memory.wf :=
  Memory.wf_write h (by simpa [memorySize] using a.isLt)

/-- The range check passes everywhere but at 0xFFFF (20_memory.md R44). -/
theorem checkWordRange_eq (a : Word) :
    checkWordRange a = if a = 0xFFFF#16 then .error ⟨0x10000⟩ else .ok () := by
  by_cases h : a = 0xFFFF#16
  · subst h; rfl
  · have h' : a.toNat ≠ 65535 := fun e => h (BitVec.eq_of_toNat_eq e)
    have := a.isLt
    have hlt : a.toNat + 1 < memorySize := by simp only [memorySize]; omega
    rw [if_neg h]
    simp [checkWordRange, hlt]

/-- Different stack pointers designate different addresses (10_state.md R26). -/
theorem stackAddress_injective {x y : Byte} (h : stackAddress x = stackAddress y) : x = y :=
  zext16_injective (by simpa [stackAddress] using h)

section push
variable (s : State) (v : Byte)
@[simp] theorem State.push_a : (s.push v).a = s.a := rfl
@[simp] theorem State.push_x : (s.push v).x = s.x := rfl
@[simp] theorem State.push_y : (s.push v).y = s.y := rfl
@[simp] theorem State.push_sp : (s.push v).sp = s.sp - 1 := rfl
@[simp] theorem State.push_p : (s.push v).p = s.p := rfl
@[simp] theorem State.push_pc : (s.push v).pc = s.pc := rfl
@[simp] theorem State.push_runState : (s.push v).runState = s.runState := rfl
end push

/-- What a push leaves in memory (10_state.md R28). -/
theorem State.readByte_push (s : State) (v : Byte) (b : Word) :
    (s.push v).readByte b = if b = stackAddress s.sp then v else s.readByte b :=
  s.readByte_writeByte (stackAddress s.sp) b v

theorem State.push_wf {s : State} {v : Byte} (h : s.memory.wf) : (s.push v).memory.wf := State.writeByte_wf (s := s) h

theorem State.pull_eq (s : State) :
    s.pull = (s.readByte (stackAddress (s.sp + 1)), s.setSP (s.sp + 1)) := rfl

/-- The word pulled, and the state after it (10_state.md R31). -/
theorem State.pullWord_eq (s : State) :
    s.pullWord = (wordOfBytes (s.readByte (stackAddress (s.sp + 1 + 1))) (s.readByte (stackAddress (s.sp + 1))),
      s.setSP (s.sp + 1 + 1)) := rfl

/-- The advance rule as two cases (40_engine_step.md R85). -/
theorem State.advance_cases (s : State) (snap : Word) (length : Nat) :
    (s.pc = snap ∧ s.advance snap length = s.setPC (s.pc + BitVec.ofNat 16 (length - 1))) ∨
      (s.pc ≠ snap ∧ s.advance snap length = s) := by
  by_cases h : s.pc = snap
  · exact .inl ⟨h, by simp [State.advance, h]⟩
  · exact .inr ⟨h, by simp [State.advance, h]⟩

section advance
variable (s : State) (w : Word) (n : Nat)
@[simp] theorem State.advance_a : (s.advance w n).a = s.a := by unfold State.advance; split <;> rfl
@[simp] theorem State.advance_x : (s.advance w n).x = s.x := by unfold State.advance; split <;> rfl
@[simp] theorem State.advance_y : (s.advance w n).y = s.y := by unfold State.advance; split <;> rfl
@[simp] theorem State.advance_sp : (s.advance w n).sp = s.sp := by unfold State.advance; split <;> rfl
@[simp] theorem State.advance_p : (s.advance w n).p = s.p := by unfold State.advance; split <;> rfl
@[simp] theorem State.advance_runState : (s.advance w n).runState = s.runState := by
  unfold State.advance; split <;> rfl
@[simp] theorem State.advance_memory : (s.advance w n).memory = s.memory := by
  unfold State.advance; split <;> rfl
end advance

/-- Everything an instruction frame can answer: the handler's state, advanced, or the snapshot state, Faulted. -/
theorem runHandler_cases {length : Nat} {handler : State → Except OutOfRange State} {s t : State}
    (h : runHandler length handler s = .next t) :
    (∃ u, handler s.snapshot = .ok u ∧ t = u.advance (s.pc + 1) length) ∨
      (∃ e, handler s.snapshot = .error e ∧ t = takeOutOfRange e s.snapshot) := by
  unfold runHandler at h
  split at h
  · next e he => exact .inr ⟨e, he, by simpa using h.symm⟩
  · next u hu => exact .inl ⟨u, hu, by simpa using h.symm⟩

/-- An instruction frame always answers a next state. -/
theorem runHandler_next (length : Nat) (handler : State → Except OutOfRange State) (s : State) :
    ∃ t, runHandler length handler s = .next t := by
  unfold runHandler
  split <;> exact ⟨_, rfl⟩

theorem runHandler_ok {length : Nat} {handler : State → Except OutOfRange State} {s u : State}
    (h : handler s.snapshot = .ok u) : runHandler length handler s = .next (u.advance (s.pc + 1) length) := by
  simp [runHandler, h]

theorem runHandler_error {length : Nat} {handler : State → Except OutOfRange State} {s : State} {e : OutOfRange}
    (h : handler s.snapshot = .error e) : runHandler length handler s = .next (takeOutOfRange e s.snapshot) := by
  simp [runHandler, h]

end Sys2Proof.Machine
end

