-- ==== Sys2Proof/Laws/Operands.lean ====
section
/-! SUPPORT. What the resolver and the instruction shapes of Machine/Operands.lean can do, said once. -/

namespace Sys2Proof

/-- The modes with an operand word are the three-byte ones (30_encoding.md R64). -/
theorem Operand.readsWord_iff (o : Operand) : o.readsWord = true ↔ o.mode.length = 3 := by
  cases o <;> simp [Operand.readsWord, Operand.mode, Mode.length]

/-- The resolver: a fault exactly for a word operand at snapshot 0xFFFF, else the address (41_addressing_modes.md
R100, R107). -/
theorem Operand.resolve_eq (o : Operand) (s : Machine.State) :
    o.resolve s =
      if o.readsWord = true ∧ s.pc = 0xFFFF#16 then .error ⟨0x10000⟩ else .ok (o.address s) := by
  cases h : o.readsWord
  · simp [Operand.resolve, h, Except.map]
  · by_cases hp : s.pc = 0xFFFF#16
    · simp [Operand.resolve, h, Machine.checkWordRange_eq, hp, Except.map]
    · simp only [Operand.resolve, h, Machine.checkWordRange_eq, if_neg hp]
      simp [Except.map, hp]

/-- The operand byte: the same fault, else the byte (R114). -/
theorem Operand.value_eq (o : Operand) (s : Machine.State) :
    o.value s = if o.readsWord = true ∧ s.pc = 0xFFFF#16 then .error ⟨0x10000⟩ else .ok (o.byteAt s) := by
  rw [Operand.value, Operand.resolve_eq]
  split <;> rfl

end Sys2Proof

namespace Sys2Proof.Machine

/-- An operand word at the top of memory: the condition under which the resolver faults in the handler of an
instruction at `s.pc`. -/
abbrev wordAtTop (o : Operand) (s : State) : Prop := o.readsWord = true ∧ s.pc + 1 = 0xFFFF#16

theorem impliedForm_eq (f : State → State) (s : State) :
    impliedForm f s = .next ((f s.snapshot).advance (s.pc + 1) 1) := rfl

theorem accumulatorForm_eq (op : Byte → Byte → RmwResult) (s : State) :
    accumulatorForm op s =
      .next (((s.snapshot.setA (op s.a s.p).value).setP (op s.a s.p).p).advance (s.pc + 1) 1) := rfl

/-- An addressed instruction faults with nothing done but the fetch, or runs with its effective address. -/
theorem withAddress_eq (o : Operand) (f : Word → State → State) (s : State) :
    withAddress o f s =
      if wordAtTop o s then .next (takeOutOfRange ⟨0x10000⟩ s.snapshot)
      else .next ((f (o.address s.snapshot) s.snapshot).advance (s.pc + 1) o.mode.length) := by
  by_cases h : wordAtTop o s
  · rw [if_pos h]
    exact runHandler_error (by rw [Operand.resolve_eq, if_pos (show _ ∧ s.snapshot.pc = 0xFFFF#16 from h)]; rfl)
  · rw [if_neg h]
    exact runHandler_ok (by rw [Operand.resolve_eq, if_neg (show ¬(_ ∧ s.snapshot.pc = 0xFFFF#16) from h)]; rfl)

/-- A reading instruction faults with nothing done but the fetch, or runs with its operand byte. -/
theorem readForm_eq (o : Operand) (f : Byte → State → State) (s : State) :
    readForm o f s =
      if wordAtTop o s then .next (takeOutOfRange ⟨0x10000⟩ s.snapshot)
      else .next ((f (o.byteAt s.snapshot) s.snapshot).advance (s.pc + 1) o.mode.length) := by
  by_cases h : wordAtTop o s
  · rw [if_pos h]
    exact runHandler_error (by rw [Operand.value_eq, if_pos (show _ ∧ s.snapshot.pc = 0xFFFF#16 from h)]; rfl)
  · rw [if_neg h]
    exact runHandler_ok (by rw [Operand.value_eq, if_neg (show ¬(_ ∧ s.snapshot.pc = 0xFFFF#16) from h)]; rfl)

end Sys2Proof.Machine
end

