-- ==== Sys2Proof/Laws/Exec.lean ====
section
/-! SUPPORT. Every meaning by its mnemonic and its operand: a claim over all instructions splits into the 55
mnemonics and the few shapes of Machine/Operands.lean, not into 150 arms. -/

namespace Sys2Proof.Machine

/-- The meaning of an instruction without an operand (41_addressing_modes.md R101, R102). -/
def plainMeaning : Mnemonic → State → Result
  | .tax => impliedForm tax
  | .txa => impliedForm txa
  | .tay => impliedForm tay
  | .tya => impliedForm tya
  | .tsx => impliedForm tsx
  | .txs => impliedForm txs
  | .asl => accumulatorForm asl
  | .lsr => accumulatorForm lsr
  | .rol => accumulatorForm rol
  | .ror => accumulatorForm ror
  | .inx => impliedForm inx
  | .dex => impliedForm dex
  | .iny => impliedForm iny
  | .dey => impliedForm dey
  | .rts => impliedForm rts
  | .pha => impliedForm pha
  | .pla => impliedForm pla
  | .php => impliedForm php
  | .plp => impliedForm plp
  | .sec => flagForm .c true
  | .clc => flagForm .c false
  | .sei => flagForm .i true
  | .cli => flagForm .i false
  | .sed => flagForm .d true
  | .cld => flagForm .d false
  | .clv => flagForm .v false
  | .nop => impliedForm id
  | .lda | .ldx | .ldy | .sta | .stx | .sty | .adc | .sbc | .and | .ora | .eor | .inc | .dec | .cmp | .cpx | .cpy
  | .bit | .bcc | .bcs | .beq | .bne | .bmi | .bpl | .bvc | .bvs | .jmp | .jsr | .brk => haltStep

/-- A branch, from its operand. -/
def branchMeaning (f : Flag) (want : Bool) (o : Operand) : State → Result :=
  withAddress o fun t s => if s.flag f = want then s.setPC t else s

/-- The meaning of an instruction with an operand. -/
def operandMeaning (o : Operand) : Mnemonic → State → Result
  | .lda => readForm o lda
  | .ldx => readForm o ldx
  | .ldy => readForm o ldy
  | .sta => storeForm o State.a
  | .stx => storeForm o State.x
  | .sty => storeForm o State.y
  | .adc => readForm o adc
  | .sbc => readForm o sbc
  | .and => readForm o andM
  | .ora => readForm o ora
  | .eor => readForm o eor
  | .asl => rmwForm o asl
  | .lsr => rmwForm o lsr
  | .rol => rmwForm o rol
  | .ror => rmwForm o ror
  | .inc => rmwForm o inc
  | .dec => rmwForm o dec
  | .cmp => readForm o cmp
  | .cpx => readForm o cpx
  | .cpy => readForm o cpy
  | .bit => readForm o bit
  | .bcc => branchMeaning .c false o
  | .bcs => branchMeaning .c true o
  | .beq => branchMeaning .z true o
  | .bne => branchMeaning .z false o
  | .bmi => branchMeaning .n true o
  | .bpl => branchMeaning .n false o
  | .bvc => branchMeaning .v false o
  | .bvs => branchMeaning .v true o
  | .jmp => jumpForm o
  | .jsr => withAddress o fun t s => (s.pushWord (s.pc + 1)).setPC t
  | .tax | .txa | .tay | .tya | .tsx | .txs | .inx | .dex | .iny | .dey | .rts | .pha | .pla | .php | .plp
  | .sec | .clc | .sei | .cli | .sed | .cld | .clv | .nop | .brk => haltStep

/-- Every arm is the meaning of its mnemonic over its operand. -/
theorem exec_eq_meaning (i : Instr) (s : State) :
    exec i s = match i.operand with
      | some o => operandMeaning o i.mnemonic s
      | none => plainMeaning i.mnemonic s := by
  cases i <;> rfl

theorem exec_of_operand {i : Instr} {o : Operand} (h : i.operand = some o) (s : State) :
    exec i s = operandMeaning o i.mnemonic s := by
  rw [exec_eq_meaning, h]

theorem exec_of_no_operand {i : Instr} (h : i.operand = none) (s : State) :
    exec i s = plainMeaning i.mnemonic s := by
  rw [exec_eq_meaning, h]

/-- The mode of an instruction is its operand's. -/
theorem mode_of_operand {i : Instr} {o : Operand} (h : i.operand = some o) : i.mode = o.mode := by
  cases i <;> simp only [Instr.operand, reduceCtorEq, Option.some.injEq] at h <;> subst h <;> rfl

theorem length_of_no_operand {i : Instr} (h : i.operand = none) : i.length = 1 := by
  cases i <;> first | rfl | simp [Instr.operand] at h

end Sys2Proof.Machine
end

