-- ==== Sys2Proof/Laws/Effect.lean ====
section
/-! SUPPORT. Every instruction said in one form: its effect on the snapshot state, then the advance of PC, or the
OutOfRange fault of a word operand at the top of memory. A claim over all instructions goes through `exec_eq_effect`
and one case per mnemonic. -/

namespace Sys2Proof.Machine

/-- The write of a read-modify-write result to memory and to P. -/
abbrev storeRmw (ea : Word) (r : RmwResult) (s : State) : State := (s.writeByte ea r.value).setP r.p

/-- What an instruction without an operand does to the snapshot state, before PC advances. -/
def plainEffect (m : Mnemonic) (s : State) : State :=
  match m with
  | .tax => tax s
  | .txa => txa s
  | .tay => tay s
  | .tya => tya s
  | .tsx => tsx s
  | .txs => txs s
  | .asl => (s.setA (asl s.a s.p).value).setP (asl s.a s.p).p
  | .lsr => (s.setA (lsr s.a s.p).value).setP (lsr s.a s.p).p
  | .rol => (s.setA (rol s.a s.p).value).setP (rol s.a s.p).p
  | .ror => (s.setA (ror s.a s.p).value).setP (ror s.a s.p).p
  | .inx => inx s
  | .dex => dex s
  | .iny => iny s
  | .dey => dey s
  | .rts => rts s
  | .pha => pha s
  | .pla => pla s
  | .php => php s
  | .plp => plp s
  | .sec => s.setFlag .c true
  | .clc => s.setFlag .c false
  | .sei => s.setFlag .i true
  | .cli => s.setFlag .i false
  | .sed => s.setFlag .d true
  | .cld => s.setFlag .d false
  | .clv => s.setFlag .v false
  | .nop => s
  | .lda | .ldx | .ldy | .sta | .stx | .sty | .adc | .sbc | .and | .ora | .eor | .inc | .dec | .cmp | .cpx | .cpy
  | .bit | .bcc | .bcs | .beq | .bne | .bmi | .bpl | .bvc | .bvs | .jmp | .jsr | .brk => s.halt

/-- What an instruction with an operand does to the snapshot state, before PC advances, where its operand is in range. -/
def operandEffect (o : Operand) (m : Mnemonic) (s : State) : State :=
  match m with
  | .lda => lda (o.byteAt s) s
  | .ldx => ldx (o.byteAt s) s
  | .ldy => ldy (o.byteAt s) s
  | .sta => s.writeByte (o.address s) s.a
  | .stx => s.writeByte (o.address s) s.x
  | .sty => s.writeByte (o.address s) s.y
  | .adc => adc (o.byteAt s) s
  | .sbc => sbc (o.byteAt s) s
  | .and => andM (o.byteAt s) s
  | .ora => ora (o.byteAt s) s
  | .eor => eor (o.byteAt s) s
  | .asl => storeRmw (o.address s) (asl (s.readByte (o.address s)) s.p) s
  | .lsr => storeRmw (o.address s) (lsr (s.readByte (o.address s)) s.p) s
  | .rol => storeRmw (o.address s) (rol (s.readByte (o.address s)) s.p) s
  | .ror => storeRmw (o.address s) (ror (s.readByte (o.address s)) s.p) s
  | .inc => storeRmw (o.address s) (inc (s.readByte (o.address s)) s.p) s
  | .dec => storeRmw (o.address s) (dec (s.readByte (o.address s)) s.p) s
  | .cmp => cmp (o.byteAt s) s
  | .cpx => cpx (o.byteAt s) s
  | .cpy => cpy (o.byteAt s) s
  | .bit => bit (o.byteAt s) s
  | .bcc => if s.flag .c = false then s.setPC (o.address s) else s
  | .bcs => if s.flag .c = true then s.setPC (o.address s) else s
  | .beq => if s.flag .z = true then s.setPC (o.address s) else s
  | .bne => if s.flag .z = false then s.setPC (o.address s) else s
  | .bmi => if s.flag .n = true then s.setPC (o.address s) else s
  | .bpl => if s.flag .n = false then s.setPC (o.address s) else s
  | .bvc => if s.flag .v = false then s.setPC (o.address s) else s
  | .bvs => if s.flag .v = true then s.setPC (o.address s) else s
  | .jmp => s.setPC (o.address s)
  | .jsr => (s.pushWord (s.pc + 1)).setPC (o.address s)
  | .tax | .txa | .tay | .tya | .tsx | .txs | .inx | .dex | .iny | .dey | .rts | .pha | .pla | .php | .plp
  | .sec | .clc | .sei | .cli | .sed | .cld | .clv | .nop | .brk => s.halt

/-- What an instruction does to the snapshot state, before PC advances. -/
def effect (i : Instr) (s : State) : State :=
  match i.operand with
  | some o => operandEffect o i.mnemonic s
  | none => plainEffect i.mnemonic s

theorem effect_of_operand {i : Instr} {o : Operand} (h : i.operand = some o) (s : State) :
    effect i s = operandEffect o i.mnemonic s := by
  rw [effect, h]

theorem effect_of_no_operand {i : Instr} (h : i.operand = none) (s : State) :
    effect i s = plainEffect i.mnemonic s := by
  rw [effect, h]

/-- The mnemonics that never stand without an operand. -/
def operandMnemonics : List Mnemonic :=
  [.lda, .ldx, .ldy, .sta, .stx, .sty, .adc, .sbc, .and, .ora, .eor, .inc, .dec, .cmp, .cpx, .cpy, .bit,
   .bcc, .bcs, .beq, .bne, .bmi, .bpl, .bvc, .bvs, .jmp, .jsr]

/-- The mnemonics that never stand with an operand. -/
def plainMnemonics : List Mnemonic :=
  [.tax, .txa, .tay, .tya, .tsx, .txs, .inx, .dex, .iny, .dey, .rts, .pha, .pla, .php, .plp,
   .sec, .clc, .sei, .cli, .sed, .cld, .clv, .nop, .brk]

theorem mnemonic_of_operand {i : Instr} {o : Operand} (h : i.operand = some o) : i.mnemonic ∉ plainMnemonics := by
  cases i <;> first
    | (simp [Instr.operand] at h; done)
    | (dsimp only [Instr.mnemonic]; decide)

theorem mnemonic_of_no_operand {i : Instr} (h : i.operand = none) : i.mnemonic ∉ operandMnemonics := by
  cases i <;> first
    | (simp [Instr.operand] at h; done)
    | (dsimp only [Instr.mnemonic]; decide)

/-- A word operand stands at the top of memory exactly for a three-byte instruction at 0xFFFE (60_exceptions.md
R221). -/
theorem wordAtTop_iff {i : Instr} {o : Operand} {s : State} (h : i.operand = some o) :
    wordAtTop o s ↔ i.length = 3 ∧ s.pc = 0xFFFE#16 := by
  rw [wordAtTop, o.readsWord_iff, Instr.length, mode_of_operand h]
  refine and_congr_right fun _ => ⟨fun h => ?_, fun h => by rw [h]; rfl⟩
  have : s.pc = 0xFFFF#16 - 1 := by rw [← h]; simp
  simpa using this

theorem takeOutOfRange_snapshot {s : State} (h : s.pc = 0xFFFE#16) :
    takeOutOfRange ⟨0x10000⟩ s.snapshot = faultedState s := by
  have : s.pc + 1 = 0xFFFF#16 := by rw [h]; rfl
  simp only [takeOutOfRange, State.snapshot, State.setPC, State.setRunState, faultedState, this]

theorem haltStep_eq (s : State) : haltStep s = .next (s.snapshot.halt.advance (s.pc + 1) 1) := by
  simp [haltStep, State.advance, State.halt, State.snapshot, State.setPC, State.setRunState]

/-- Every instruction, once and for all: the fault of a word operand at the top of memory, or the effect and then the
advance of PC. -/
theorem exec_eq_effect (i : Instr) (s : State) :
    exec i s = .next (if i.length = 3 ∧ s.pc = 0xFFFE#16 then faultedState s
      else (effect i s.snapshot).advance (s.pc + 1) i.length) := by
  cases h : i.operand with
  | none =>
    have hm := mnemonic_of_no_operand h
    have hl := length_of_no_operand h
    rw [exec_of_no_operand h, effect_of_no_operand h, if_neg (by rw [hl]; simp), hl]
    generalize i.mnemonic = m at hm ⊢
    cases m <;> first
      | exact absurd (by decide) hm
      | rfl
      | exact haltStep_eq s
  | some o =>
    have hm := mnemonic_of_operand h
    rw [exec_of_operand h, effect_of_operand h]
    by_cases ht : i.length = 3 ∧ s.pc = 0xFFFE#16
    · have hw := (wordAtTop_iff h).2 ht
      rw [if_pos ht, ← takeOutOfRange_snapshot ht.2]
      generalize i.mnemonic = m at hm ⊢
      cases m <;> (try dsimp only [operandMeaning, storeForm, rmwForm, branchMeaning, jumpForm]) <;> first
        | exact absurd (by decide) hm
        | exact (readForm_eq _ _ _).trans (if_pos hw)
        | exact (withAddress_eq _ _ _).trans (if_pos hw)
    · have hw : ¬wordAtTop o s := fun h' => ht ((wordAtTop_iff h).1 h')
      rw [if_neg ht, Instr.length, mode_of_operand h]
      generalize i.mnemonic = m at hm ⊢
      cases m <;> (try dsimp only [operandMeaning, storeForm, rmwForm, branchMeaning, jumpForm]) <;> first
        | exact absurd (by decide) hm
        | exact (readForm_eq _ _ _).trans (if_neg hw)
        | exact (withAddress_eq _ _ _).trans (if_neg hw)

/-- What a next state of an instruction is. -/
theorem exec_cases {i : Instr} {s t : State} (h : exec i s = .next t) :
    (i.length = 3 ∧ s.pc = 0xFFFE#16 ∧ t = faultedState s) ∨
      (¬(i.length = 3 ∧ s.pc = 0xFFFE#16) ∧ t = (effect i s.snapshot).advance (s.pc + 1) i.length) := by
  rw [exec_eq_effect] at h
  split at h
  · next ht => exact .inl ⟨ht.1, ht.2, by simpa using h.symm⟩
  · next ht => exact .inr ⟨ht, by simpa using h.symm⟩

theorem length_pos (i : Instr) : 0 < i.length := by
  unfold Instr.length
  cases i.mode <;> decide

/-- Where PC still has the snapshot's value, the advance ends at the next sequential instruction (40_engine_step.md
R85). -/
theorem advance_to_nextPC {i : Instr} {s u : State} (h : u.pc = s.pc + 1) :
    u.advance (s.pc + 1) i.length = u.setPC (nextPC i s) := by
  have hl := length_pos i
  have e : s.pc + 1 + BitVec.ofNat 16 (i.length - 1) = nextPC i s := by
    apply BitVec.eq_of_toNat_eq
    simp only [nextPC, BitVec.toNat_add, BitVec.toNat_ofNat]
    have : (1 : Word).toNat = 1 := rfl
    omega
  rw [State.advance, if_pos h, h, e]

/-- An instruction in range, the effect of which leaves PC at the snapshot, ends with that effect and PC at the next
instruction. -/
theorem exec_in_range {i : Instr} {s : State} (hr : OperandInRange i s) (h : (effect i s.snapshot).pc = s.pc + 1) :
    exec i s = .next ((effect i s.snapshot).setPC (nextPC i s)) := by
  rw [exec_eq_effect, if_neg fun ht => hr ht.1 ht.2, advance_to_nextPC h]

/-- An instruction in range, the effect of which leaves PC elsewhere, ends with that effect. -/
theorem exec_redirected {i : Instr} {s : State} (hr : OperandInRange i s) (h : (effect i s.snapshot).pc ≠ s.pc + 1) :
    exec i s = .next (effect i s.snapshot) := by
  rw [exec_eq_effect, if_neg fun ht => hr ht.1 ht.2, State.advance, if_neg h]

-- The terms of Safety.lean.

/-- `SetZN(v)` changes the two flags it names (10_state.md R22). -/
theorem flagsAfter_withZN (p v : Byte) : FlagsAfter p (withZN p v) (znFlags v) := by
  intro f
  rw [flagOf_withZN]
  cases f <;> simp [znFlags, List.lookup, BEq.beq]

theorem flagsAfter_nil (p : Byte) : FlagsAfter p p [] := fun _ => rfl

/-- A byte write changes the byte it names (20_memory.md R43). -/
theorem memoryAfter_write (m : Memory) (a : Word) (v : Byte) : MemoryAfter m (m.write a.toNat v) [(a, v)] := by
  intro b
  by_cases h : b = a
  · subst h
    simp [List.lookup]
  · have h' : b.toNat ≠ a.toNat := fun e => h (BitVec.eq_of_toNat_eq e)
    have h2 : (b == a) = false := by simpa using h
    simp [Memory.read_write_other _ _ h', List.lookup, h2]

theorem stackAddress_eq_or (sp : Byte) : stackAddress sp = (0x0100#16 ||| zext16 sp) := by
  revert sp
  decide

end Sys2Proof.Machine
end

