-- ==== Sys2Proof/Laws/PerInstr.lean ====
section
/-! SUPPORT. Facts about every instruction as syntax, one lemma per constructor (LAWS.json, "per_instruction"). -/

/-- The instruction is well formed and its encoding is exactly as long as its mode says (30_encoding.md R64, R66). -/
def Sys2Proof.Laws.Encoded.Statement (i : Sys2Proof.Instr) : Prop :=
  i.wellFormed = true ∧ (Sys2Proof.encode i).length = i.length

namespace Sys2Proof.Laws.Encoded

theorem ldaImmediate (n : Sys2Proof.Byte) : Statement (Instr.ldaImmediate n) := ⟨rfl, rfl⟩
theorem ldaZeroPage (n : Sys2Proof.Byte) : Statement (Instr.ldaZeroPage n) := ⟨rfl, rfl⟩
theorem ldaZeroPageX (n : Sys2Proof.Byte) : Statement (Instr.ldaZeroPageX n) := ⟨rfl, rfl⟩
theorem ldaAbsolute (w : Sys2Proof.Word) : Statement (Instr.ldaAbsolute w) := ⟨rfl, rfl⟩
theorem ldaAbsoluteX (w : Sys2Proof.Word) : Statement (Instr.ldaAbsoluteX w) := ⟨rfl, rfl⟩
theorem ldaAbsoluteY (w : Sys2Proof.Word) : Statement (Instr.ldaAbsoluteY w) := ⟨rfl, rfl⟩
theorem ldaIndirectX (n : Sys2Proof.Byte) : Statement (Instr.ldaIndirectX n) := ⟨rfl, rfl⟩
theorem ldaIndirectY (n : Sys2Proof.Byte) : Statement (Instr.ldaIndirectY n) := ⟨rfl, rfl⟩
theorem ldxImmediate (n : Sys2Proof.Byte) : Statement (Instr.ldxImmediate n) := ⟨rfl, rfl⟩
theorem ldxZeroPage (n : Sys2Proof.Byte) : Statement (Instr.ldxZeroPage n) := ⟨rfl, rfl⟩
theorem ldxZeroPageY (n : Sys2Proof.Byte) : Statement (Instr.ldxZeroPageY n) := ⟨rfl, rfl⟩
theorem ldxAbsolute (w : Sys2Proof.Word) : Statement (Instr.ldxAbsolute w) := ⟨rfl, rfl⟩
theorem ldxAbsoluteY (w : Sys2Proof.Word) : Statement (Instr.ldxAbsoluteY w) := ⟨rfl, rfl⟩
theorem ldyImmediate (n : Sys2Proof.Byte) : Statement (Instr.ldyImmediate n) := ⟨rfl, rfl⟩
theorem ldyZeroPage (n : Sys2Proof.Byte) : Statement (Instr.ldyZeroPage n) := ⟨rfl, rfl⟩
theorem ldyZeroPageX (n : Sys2Proof.Byte) : Statement (Instr.ldyZeroPageX n) := ⟨rfl, rfl⟩
theorem ldyAbsolute (w : Sys2Proof.Word) : Statement (Instr.ldyAbsolute w) := ⟨rfl, rfl⟩
theorem ldyAbsoluteX (w : Sys2Proof.Word) : Statement (Instr.ldyAbsoluteX w) := ⟨rfl, rfl⟩
theorem staZeroPage (n : Sys2Proof.Byte) : Statement (Instr.staZeroPage n) := ⟨rfl, rfl⟩
theorem staZeroPageX (n : Sys2Proof.Byte) : Statement (Instr.staZeroPageX n) := ⟨rfl, rfl⟩
theorem staAbsolute (w : Sys2Proof.Word) : Statement (Instr.staAbsolute w) := ⟨rfl, rfl⟩
theorem staAbsoluteX (w : Sys2Proof.Word) : Statement (Instr.staAbsoluteX w) := ⟨rfl, rfl⟩
theorem staAbsoluteY (w : Sys2Proof.Word) : Statement (Instr.staAbsoluteY w) := ⟨rfl, rfl⟩
theorem staIndirectX (n : Sys2Proof.Byte) : Statement (Instr.staIndirectX n) := ⟨rfl, rfl⟩
theorem staIndirectY (n : Sys2Proof.Byte) : Statement (Instr.staIndirectY n) := ⟨rfl, rfl⟩
theorem stxZeroPage (n : Sys2Proof.Byte) : Statement (Instr.stxZeroPage n) := ⟨rfl, rfl⟩
theorem stxZeroPageY (n : Sys2Proof.Byte) : Statement (Instr.stxZeroPageY n) := ⟨rfl, rfl⟩
theorem stxAbsolute (w : Sys2Proof.Word) : Statement (Instr.stxAbsolute w) := ⟨rfl, rfl⟩
theorem styZeroPage (n : Sys2Proof.Byte) : Statement (Instr.styZeroPage n) := ⟨rfl, rfl⟩
theorem styZeroPageX (n : Sys2Proof.Byte) : Statement (Instr.styZeroPageX n) := ⟨rfl, rfl⟩
theorem styAbsolute (w : Sys2Proof.Word) : Statement (Instr.styAbsolute w) := ⟨rfl, rfl⟩
theorem tax : Statement (Instr.tax) := ⟨rfl, rfl⟩
theorem txa : Statement (Instr.txa) := ⟨rfl, rfl⟩
theorem tay : Statement (Instr.tay) := ⟨rfl, rfl⟩
theorem tya : Statement (Instr.tya) := ⟨rfl, rfl⟩
theorem tsx : Statement (Instr.tsx) := ⟨rfl, rfl⟩
theorem txs : Statement (Instr.txs) := ⟨rfl, rfl⟩
theorem adcImmediate (n : Sys2Proof.Byte) : Statement (Instr.adcImmediate n) := ⟨rfl, rfl⟩
theorem adcZeroPage (n : Sys2Proof.Byte) : Statement (Instr.adcZeroPage n) := ⟨rfl, rfl⟩
theorem adcZeroPageX (n : Sys2Proof.Byte) : Statement (Instr.adcZeroPageX n) := ⟨rfl, rfl⟩
theorem adcAbsolute (w : Sys2Proof.Word) : Statement (Instr.adcAbsolute w) := ⟨rfl, rfl⟩
theorem adcAbsoluteX (w : Sys2Proof.Word) : Statement (Instr.adcAbsoluteX w) := ⟨rfl, rfl⟩
theorem adcAbsoluteY (w : Sys2Proof.Word) : Statement (Instr.adcAbsoluteY w) := ⟨rfl, rfl⟩
theorem adcIndirectX (n : Sys2Proof.Byte) : Statement (Instr.adcIndirectX n) := ⟨rfl, rfl⟩
theorem adcIndirectY (n : Sys2Proof.Byte) : Statement (Instr.adcIndirectY n) := ⟨rfl, rfl⟩
theorem sbcImmediate (n : Sys2Proof.Byte) : Statement (Instr.sbcImmediate n) := ⟨rfl, rfl⟩
theorem sbcZeroPage (n : Sys2Proof.Byte) : Statement (Instr.sbcZeroPage n) := ⟨rfl, rfl⟩
theorem sbcZeroPageX (n : Sys2Proof.Byte) : Statement (Instr.sbcZeroPageX n) := ⟨rfl, rfl⟩
theorem sbcAbsolute (w : Sys2Proof.Word) : Statement (Instr.sbcAbsolute w) := ⟨rfl, rfl⟩
theorem sbcAbsoluteX (w : Sys2Proof.Word) : Statement (Instr.sbcAbsoluteX w) := ⟨rfl, rfl⟩
theorem sbcAbsoluteY (w : Sys2Proof.Word) : Statement (Instr.sbcAbsoluteY w) := ⟨rfl, rfl⟩
theorem sbcIndirectX (n : Sys2Proof.Byte) : Statement (Instr.sbcIndirectX n) := ⟨rfl, rfl⟩
theorem sbcIndirectY (n : Sys2Proof.Byte) : Statement (Instr.sbcIndirectY n) := ⟨rfl, rfl⟩
theorem andImmediate (n : Sys2Proof.Byte) : Statement (Instr.andImmediate n) := ⟨rfl, rfl⟩
theorem andZeroPage (n : Sys2Proof.Byte) : Statement (Instr.andZeroPage n) := ⟨rfl, rfl⟩
theorem andZeroPageX (n : Sys2Proof.Byte) : Statement (Instr.andZeroPageX n) := ⟨rfl, rfl⟩
theorem andAbsolute (w : Sys2Proof.Word) : Statement (Instr.andAbsolute w) := ⟨rfl, rfl⟩
theorem andAbsoluteX (w : Sys2Proof.Word) : Statement (Instr.andAbsoluteX w) := ⟨rfl, rfl⟩
theorem andAbsoluteY (w : Sys2Proof.Word) : Statement (Instr.andAbsoluteY w) := ⟨rfl, rfl⟩
theorem andIndirectX (n : Sys2Proof.Byte) : Statement (Instr.andIndirectX n) := ⟨rfl, rfl⟩
theorem andIndirectY (n : Sys2Proof.Byte) : Statement (Instr.andIndirectY n) := ⟨rfl, rfl⟩
theorem oraImmediate (n : Sys2Proof.Byte) : Statement (Instr.oraImmediate n) := ⟨rfl, rfl⟩
theorem oraZeroPage (n : Sys2Proof.Byte) : Statement (Instr.oraZeroPage n) := ⟨rfl, rfl⟩
theorem oraZeroPageX (n : Sys2Proof.Byte) : Statement (Instr.oraZeroPageX n) := ⟨rfl, rfl⟩
theorem oraAbsolute (w : Sys2Proof.Word) : Statement (Instr.oraAbsolute w) := ⟨rfl, rfl⟩
theorem oraAbsoluteX (w : Sys2Proof.Word) : Statement (Instr.oraAbsoluteX w) := ⟨rfl, rfl⟩
theorem oraAbsoluteY (w : Sys2Proof.Word) : Statement (Instr.oraAbsoluteY w) := ⟨rfl, rfl⟩
theorem oraIndirectX (n : Sys2Proof.Byte) : Statement (Instr.oraIndirectX n) := ⟨rfl, rfl⟩
theorem oraIndirectY (n : Sys2Proof.Byte) : Statement (Instr.oraIndirectY n) := ⟨rfl, rfl⟩
theorem eorImmediate (n : Sys2Proof.Byte) : Statement (Instr.eorImmediate n) := ⟨rfl, rfl⟩
theorem eorZeroPage (n : Sys2Proof.Byte) : Statement (Instr.eorZeroPage n) := ⟨rfl, rfl⟩
theorem eorZeroPageX (n : Sys2Proof.Byte) : Statement (Instr.eorZeroPageX n) := ⟨rfl, rfl⟩
theorem eorAbsolute (w : Sys2Proof.Word) : Statement (Instr.eorAbsolute w) := ⟨rfl, rfl⟩
theorem eorAbsoluteX (w : Sys2Proof.Word) : Statement (Instr.eorAbsoluteX w) := ⟨rfl, rfl⟩
theorem eorAbsoluteY (w : Sys2Proof.Word) : Statement (Instr.eorAbsoluteY w) := ⟨rfl, rfl⟩
theorem eorIndirectX (n : Sys2Proof.Byte) : Statement (Instr.eorIndirectX n) := ⟨rfl, rfl⟩
theorem eorIndirectY (n : Sys2Proof.Byte) : Statement (Instr.eorIndirectY n) := ⟨rfl, rfl⟩
theorem aslAccumulator : Statement (Instr.aslAccumulator) := ⟨rfl, rfl⟩
theorem aslZeroPage (n : Sys2Proof.Byte) : Statement (Instr.aslZeroPage n) := ⟨rfl, rfl⟩
theorem aslZeroPageX (n : Sys2Proof.Byte) : Statement (Instr.aslZeroPageX n) := ⟨rfl, rfl⟩
theorem aslAbsolute (w : Sys2Proof.Word) : Statement (Instr.aslAbsolute w) := ⟨rfl, rfl⟩
theorem aslAbsoluteX (w : Sys2Proof.Word) : Statement (Instr.aslAbsoluteX w) := ⟨rfl, rfl⟩
theorem lsrAccumulator : Statement (Instr.lsrAccumulator) := ⟨rfl, rfl⟩
theorem lsrZeroPage (n : Sys2Proof.Byte) : Statement (Instr.lsrZeroPage n) := ⟨rfl, rfl⟩
theorem lsrZeroPageX (n : Sys2Proof.Byte) : Statement (Instr.lsrZeroPageX n) := ⟨rfl, rfl⟩
theorem lsrAbsolute (w : Sys2Proof.Word) : Statement (Instr.lsrAbsolute w) := ⟨rfl, rfl⟩
theorem lsrAbsoluteX (w : Sys2Proof.Word) : Statement (Instr.lsrAbsoluteX w) := ⟨rfl, rfl⟩
theorem rolAccumulator : Statement (Instr.rolAccumulator) := ⟨rfl, rfl⟩
theorem rolZeroPage (n : Sys2Proof.Byte) : Statement (Instr.rolZeroPage n) := ⟨rfl, rfl⟩
theorem rolZeroPageX (n : Sys2Proof.Byte) : Statement (Instr.rolZeroPageX n) := ⟨rfl, rfl⟩
theorem rolAbsolute (w : Sys2Proof.Word) : Statement (Instr.rolAbsolute w) := ⟨rfl, rfl⟩
theorem rolAbsoluteX (w : Sys2Proof.Word) : Statement (Instr.rolAbsoluteX w) := ⟨rfl, rfl⟩
theorem rorAccumulator : Statement (Instr.rorAccumulator) := ⟨rfl, rfl⟩
theorem rorZeroPage (n : Sys2Proof.Byte) : Statement (Instr.rorZeroPage n) := ⟨rfl, rfl⟩
theorem rorZeroPageX (n : Sys2Proof.Byte) : Statement (Instr.rorZeroPageX n) := ⟨rfl, rfl⟩
theorem rorAbsolute (w : Sys2Proof.Word) : Statement (Instr.rorAbsolute w) := ⟨rfl, rfl⟩
theorem rorAbsoluteX (w : Sys2Proof.Word) : Statement (Instr.rorAbsoluteX w) := ⟨rfl, rfl⟩
theorem incZeroPage (n : Sys2Proof.Byte) : Statement (Instr.incZeroPage n) := ⟨rfl, rfl⟩
theorem incZeroPageX (n : Sys2Proof.Byte) : Statement (Instr.incZeroPageX n) := ⟨rfl, rfl⟩
theorem incAbsolute (w : Sys2Proof.Word) : Statement (Instr.incAbsolute w) := ⟨rfl, rfl⟩
theorem incAbsoluteX (w : Sys2Proof.Word) : Statement (Instr.incAbsoluteX w) := ⟨rfl, rfl⟩
theorem decZeroPage (n : Sys2Proof.Byte) : Statement (Instr.decZeroPage n) := ⟨rfl, rfl⟩
theorem decZeroPageX (n : Sys2Proof.Byte) : Statement (Instr.decZeroPageX n) := ⟨rfl, rfl⟩
theorem decAbsolute (w : Sys2Proof.Word) : Statement (Instr.decAbsolute w) := ⟨rfl, rfl⟩
theorem decAbsoluteX (w : Sys2Proof.Word) : Statement (Instr.decAbsoluteX w) := ⟨rfl, rfl⟩
theorem inx : Statement (Instr.inx) := ⟨rfl, rfl⟩
theorem dex : Statement (Instr.dex) := ⟨rfl, rfl⟩
theorem iny : Statement (Instr.iny) := ⟨rfl, rfl⟩
theorem dey : Statement (Instr.dey) := ⟨rfl, rfl⟩
theorem cmpImmediate (n : Sys2Proof.Byte) : Statement (Instr.cmpImmediate n) := ⟨rfl, rfl⟩
theorem cmpZeroPage (n : Sys2Proof.Byte) : Statement (Instr.cmpZeroPage n) := ⟨rfl, rfl⟩
theorem cmpZeroPageX (n : Sys2Proof.Byte) : Statement (Instr.cmpZeroPageX n) := ⟨rfl, rfl⟩
theorem cmpAbsolute (w : Sys2Proof.Word) : Statement (Instr.cmpAbsolute w) := ⟨rfl, rfl⟩
theorem cmpAbsoluteX (w : Sys2Proof.Word) : Statement (Instr.cmpAbsoluteX w) := ⟨rfl, rfl⟩
theorem cmpAbsoluteY (w : Sys2Proof.Word) : Statement (Instr.cmpAbsoluteY w) := ⟨rfl, rfl⟩
theorem cmpIndirectX (n : Sys2Proof.Byte) : Statement (Instr.cmpIndirectX n) := ⟨rfl, rfl⟩
theorem cmpIndirectY (n : Sys2Proof.Byte) : Statement (Instr.cmpIndirectY n) := ⟨rfl, rfl⟩
theorem cpxImmediate (n : Sys2Proof.Byte) : Statement (Instr.cpxImmediate n) := ⟨rfl, rfl⟩
theorem cpxZeroPage (n : Sys2Proof.Byte) : Statement (Instr.cpxZeroPage n) := ⟨rfl, rfl⟩
theorem cpxAbsolute (w : Sys2Proof.Word) : Statement (Instr.cpxAbsolute w) := ⟨rfl, rfl⟩
theorem cpyImmediate (n : Sys2Proof.Byte) : Statement (Instr.cpyImmediate n) := ⟨rfl, rfl⟩
theorem cpyZeroPage (n : Sys2Proof.Byte) : Statement (Instr.cpyZeroPage n) := ⟨rfl, rfl⟩
theorem cpyAbsolute (w : Sys2Proof.Word) : Statement (Instr.cpyAbsolute w) := ⟨rfl, rfl⟩
theorem bitZeroPage (n : Sys2Proof.Byte) : Statement (Instr.bitZeroPage n) := ⟨rfl, rfl⟩
theorem bitAbsolute (w : Sys2Proof.Word) : Statement (Instr.bitAbsolute w) := ⟨rfl, rfl⟩
theorem bcc (d : Sys2Proof.Byte) : Statement (Instr.bcc d) := ⟨rfl, rfl⟩
theorem bcs (d : Sys2Proof.Byte) : Statement (Instr.bcs d) := ⟨rfl, rfl⟩
theorem beq (d : Sys2Proof.Byte) : Statement (Instr.beq d) := ⟨rfl, rfl⟩
theorem bne (d : Sys2Proof.Byte) : Statement (Instr.bne d) := ⟨rfl, rfl⟩
theorem bmi (d : Sys2Proof.Byte) : Statement (Instr.bmi d) := ⟨rfl, rfl⟩
theorem bpl (d : Sys2Proof.Byte) : Statement (Instr.bpl d) := ⟨rfl, rfl⟩
theorem bvc (d : Sys2Proof.Byte) : Statement (Instr.bvc d) := ⟨rfl, rfl⟩
theorem bvs (d : Sys2Proof.Byte) : Statement (Instr.bvs d) := ⟨rfl, rfl⟩
theorem jmpAbsolute (w : Sys2Proof.Word) : Statement (Instr.jmpAbsolute w) := ⟨rfl, rfl⟩
theorem jmpIndirect (w : Sys2Proof.Word) : Statement (Instr.jmpIndirect w) := ⟨rfl, rfl⟩
theorem jsr (w : Sys2Proof.Word) : Statement (Instr.jsr w) := ⟨rfl, rfl⟩
theorem rts : Statement (Instr.rts) := ⟨rfl, rfl⟩
theorem pha : Statement (Instr.pha) := ⟨rfl, rfl⟩
theorem pla : Statement (Instr.pla) := ⟨rfl, rfl⟩
theorem php : Statement (Instr.php) := ⟨rfl, rfl⟩
theorem plp : Statement (Instr.plp) := ⟨rfl, rfl⟩
theorem sec : Statement (Instr.sec) := ⟨rfl, rfl⟩
theorem clc : Statement (Instr.clc) := ⟨rfl, rfl⟩
theorem sei : Statement (Instr.sei) := ⟨rfl, rfl⟩
theorem cli : Statement (Instr.cli) := ⟨rfl, rfl⟩
theorem sed : Statement (Instr.sed) := ⟨rfl, rfl⟩
theorem cld : Statement (Instr.cld) := ⟨rfl, rfl⟩
theorem clv : Statement (Instr.clv) := ⟨rfl, rfl⟩
theorem nop : Statement (Instr.nop) := ⟨rfl, rfl⟩
theorem brk : Statement (Instr.brk) := ⟨rfl, rfl⟩

end Sys2Proof.Laws.Encoded
end

