-- ==== Sys2Proof/Laws/Step.lean ====
section
/-! SUPPORT. What one step can do, said once (40_engine_step.md R86). -/

namespace Sys2Proof.Machine

/-- A step that answers a next state was taken in Running, and either halted on a byte with no table entry or ran the
instruction it fetched. -/
theorem step_cases {s t : State} (h : step s = .next t) :
    s.runState = .running ∧
      ((s.fetch = none ∧ t = s.snapshot.halt) ∨ ∃ i, s.fetch = some i ∧ exec i s = .next t) := by
  unfold step at h
  split at h
  · simp at h
  · simp at h
  · next hr =>
    refine ⟨hr, ?_⟩
    split at h
    · next i hi => exact .inr ⟨i, hi, h⟩
    · next hn => exact .inl ⟨hn, by simpa [haltStep] using h.symm⟩

/-- In Running a fetched instruction runs. -/
theorem step_of_fetch {s : State} {i : Instr} (h : s.runState = .running) (hf : s.fetch = some i) :
    step s = exec i s := by
  simp [step, h, hf]

/-- In Running a byte with no table entry halts. -/
theorem step_of_no_fetch {s : State} (h : s.runState = .running) (hf : s.fetch = none) : step s = haltStep s := by
  simp [step, h, hf]

/-- A byte with no table entry at PC halts the engine (R83). -/
theorem fetch_eq_none {s : State} : s.fetch = none ↔ opcodeShape (s.readByte s.pc) = none :=
  decodeWindow_eq_none

end Sys2Proof.Machine
end

