-- ==== Sys2Proof/Tests/Slice0.lean ====
section
/-! SUPPORT. The model's own tests: the well-formedness smoke tests, one written-out word for every constructor, single
steps from the vectors of spec/95_test_vectors.md, and for every obligation with hypotheses a state that meets them.
Every expected result is copied from the spec, never from the model. -/

namespace Sys2Proof.Tests
open Sys2Proof Sys2Proof.Machine

/-- A state with cells stored one after another. -/
def storing (s : State) (cells : List (Word × Byte)) : State := cells.foldl (fun t c => hostStore c.1 c.2 t) s

/-- The post-reset state of 95_test_vectors.md with PC at `pc`, the program bytes stored there, and cells preloaded. -/
def start (pc : Word) (bytes : List Byte) (cells : List (Word × Byte) := []) : State :=
  storing (hostStoreList pc bytes { State.reset with pc := pc }) cells

/-- One step leads where `after` says. -/
abbrev StepsTo (s : State) (after : State → State) : Prop := nextState (step s) = some (after s)

/-- The instruction carries this operand, has this mnemonic and is in range in this state. -/
def InForm (i : Instr) (o : Operand) (m : Mnemonic) (s : State) : Prop :=
  i.operand = some o ∧ i.mnemonic = m ∧ OperandInRange i s

-- Well-formedness: each check refuses an ill-formed term (30_encoding.md R66, R101).

theorem test_no_sta_immediate : cellExists .sta .immediate = false := by decide
theorem test_no_ldx_zeroPageX : cellExists .ldx .zeroPageX = false := by decide
theorem test_no_jsr_indirect : cellExists .jsr .indirect = false := by decide
theorem test_wrong_operand_of_mode : operandFits .zeroPage (some (.absolute 0x0010)) = false := by decide
theorem test_missing_operand : operandFits .relative none = false := by decide
theorem test_unwanted_operand : operandFits .accumulator (some (.immediate 0x01)) = false := by decide
theorem test_every_cell_counted :
    (opcodeTable.all fun e => (e.2.complete 0x00 0x00).wellFormed) = true := by decide

-- Decoding: one written-out word for every constructor, from the table of R66 and the layouts of R61 to R65.

theorem test_decode_lda :
    decode [0b10101001#8, 0x9A#8] = .ok (.ldaImmediate 0x9A#8, []) ∧
    decode [0b10100101#8, 0x9A#8] = .ok (.ldaZeroPage 0x9A#8, []) ∧
    decode [0b10110101#8, 0x9A#8] = .ok (.ldaZeroPageX 0x9A#8, []) ∧
    decode [0b10101101#8, 0x34#8, 0x12#8] = .ok (.ldaAbsolute 0x1234#16, []) ∧
    decode [0b10111101#8, 0x34#8, 0x12#8] = .ok (.ldaAbsoluteX 0x1234#16, []) ∧
    decode [0b10111001#8, 0x34#8, 0x12#8] = .ok (.ldaAbsoluteY 0x1234#16, []) ∧
    decode [0b10100001#8, 0x9A#8] = .ok (.ldaIndirectX 0x9A#8, []) ∧
    decode [0b10110001#8, 0x9A#8] = .ok (.ldaIndirectY 0x9A#8, []) := ⟨rfl, rfl, rfl, rfl, rfl, rfl, rfl, rfl⟩

theorem test_decode_ldx :
    decode [0b10100010#8, 0x9A#8] = .ok (.ldxImmediate 0x9A#8, []) ∧
    decode [0b10100110#8, 0x9A#8] = .ok (.ldxZeroPage 0x9A#8, []) ∧
    decode [0b10110110#8, 0x9A#8] = .ok (.ldxZeroPageY 0x9A#8, []) ∧
    decode [0b10101110#8, 0x34#8, 0x12#8] = .ok (.ldxAbsolute 0x1234#16, []) ∧
    decode [0b10111110#8, 0x34#8, 0x12#8] = .ok (.ldxAbsoluteY 0x1234#16, []) := ⟨rfl, rfl, rfl, rfl, rfl⟩

theorem test_decode_ldy :
    decode [0b10100000#8, 0x9A#8] = .ok (.ldyImmediate 0x9A#8, []) ∧
    decode [0b10100100#8, 0x9A#8] = .ok (.ldyZeroPage 0x9A#8, []) ∧
    decode [0b10110100#8, 0x9A#8] = .ok (.ldyZeroPageX 0x9A#8, []) ∧
    decode [0b10101100#8, 0x34#8, 0x12#8] = .ok (.ldyAbsolute 0x1234#16, []) ∧
    decode [0b10111100#8, 0x34#8, 0x12#8] = .ok (.ldyAbsoluteX 0x1234#16, []) := ⟨rfl, rfl, rfl, rfl, rfl⟩

theorem test_decode_sta :
    decode [0b10000101#8, 0x9A#8] = .ok (.staZeroPage 0x9A#8, []) ∧
    decode [0b10010101#8, 0x9A#8] = .ok (.staZeroPageX 0x9A#8, []) ∧
    decode [0b10001101#8, 0x34#8, 0x12#8] = .ok (.staAbsolute 0x1234#16, []) ∧
    decode [0b10011101#8, 0x34#8, 0x12#8] = .ok (.staAbsoluteX 0x1234#16, []) ∧
    decode [0b10011001#8, 0x34#8, 0x12#8] = .ok (.staAbsoluteY 0x1234#16, []) ∧
    decode [0b10000001#8, 0x9A#8] = .ok (.staIndirectX 0x9A#8, []) ∧
    decode [0b10010001#8, 0x9A#8] = .ok (.staIndirectY 0x9A#8, []) := ⟨rfl, rfl, rfl, rfl, rfl, rfl, rfl⟩

theorem test_decode_stx :
    decode [0b10000110#8, 0x9A#8] = .ok (.stxZeroPage 0x9A#8, []) ∧
    decode [0b10010110#8, 0x9A#8] = .ok (.stxZeroPageY 0x9A#8, []) ∧
    decode [0b10001110#8, 0x34#8, 0x12#8] = .ok (.stxAbsolute 0x1234#16, []) := ⟨rfl, rfl, rfl⟩

theorem test_decode_sty :
    decode [0b10000100#8, 0x9A#8] = .ok (.styZeroPage 0x9A#8, []) ∧
    decode [0b10010100#8, 0x9A#8] = .ok (.styZeroPageX 0x9A#8, []) ∧
    decode [0b10001100#8, 0x34#8, 0x12#8] = .ok (.styAbsolute 0x1234#16, []) := ⟨rfl, rfl, rfl⟩

theorem test_decode_tax :
    decode [0b10101010#8] = .ok (.tax, []) := rfl

theorem test_decode_txa :
    decode [0b10001010#8] = .ok (.txa, []) := rfl

theorem test_decode_tay :
    decode [0b10101000#8] = .ok (.tay, []) := rfl

theorem test_decode_tya :
    decode [0b10011000#8] = .ok (.tya, []) := rfl

theorem test_decode_tsx :
    decode [0b10111010#8] = .ok (.tsx, []) := rfl

theorem test_decode_txs :
    decode [0b10011010#8] = .ok (.txs, []) := rfl

theorem test_decode_adc :
    decode [0b01101001#8, 0x9A#8] = .ok (.adcImmediate 0x9A#8, []) ∧
    decode [0b01100101#8, 0x9A#8] = .ok (.adcZeroPage 0x9A#8, []) ∧
    decode [0b01110101#8, 0x9A#8] = .ok (.adcZeroPageX 0x9A#8, []) ∧
    decode [0b01101101#8, 0x34#8, 0x12#8] = .ok (.adcAbsolute 0x1234#16, []) ∧
    decode [0b01111101#8, 0x34#8, 0x12#8] = .ok (.adcAbsoluteX 0x1234#16, []) ∧
    decode [0b01111001#8, 0x34#8, 0x12#8] = .ok (.adcAbsoluteY 0x1234#16, []) ∧
    decode [0b01100001#8, 0x9A#8] = .ok (.adcIndirectX 0x9A#8, []) ∧
    decode [0b01110001#8, 0x9A#8] = .ok (.adcIndirectY 0x9A#8, []) := ⟨rfl, rfl, rfl, rfl, rfl, rfl, rfl, rfl⟩

theorem test_decode_sbc :
    decode [0b11101001#8, 0x9A#8] = .ok (.sbcImmediate 0x9A#8, []) ∧
    decode [0b11100101#8, 0x9A#8] = .ok (.sbcZeroPage 0x9A#8, []) ∧
    decode [0b11110101#8, 0x9A#8] = .ok (.sbcZeroPageX 0x9A#8, []) ∧
    decode [0b11101101#8, 0x34#8, 0x12#8] = .ok (.sbcAbsolute 0x1234#16, []) ∧
    decode [0b11111101#8, 0x34#8, 0x12#8] = .ok (.sbcAbsoluteX 0x1234#16, []) ∧
    decode [0b11111001#8, 0x34#8, 0x12#8] = .ok (.sbcAbsoluteY 0x1234#16, []) ∧
    decode [0b11100001#8, 0x9A#8] = .ok (.sbcIndirectX 0x9A#8, []) ∧
    decode [0b11110001#8, 0x9A#8] = .ok (.sbcIndirectY 0x9A#8, []) := ⟨rfl, rfl, rfl, rfl, rfl, rfl, rfl, rfl⟩

theorem test_decode_and :
    decode [0b00101001#8, 0x9A#8] = .ok (.andImmediate 0x9A#8, []) ∧
    decode [0b00100101#8, 0x9A#8] = .ok (.andZeroPage 0x9A#8, []) ∧
    decode [0b00110101#8, 0x9A#8] = .ok (.andZeroPageX 0x9A#8, []) ∧
    decode [0b00101101#8, 0x34#8, 0x12#8] = .ok (.andAbsolute 0x1234#16, []) ∧
    decode [0b00111101#8, 0x34#8, 0x12#8] = .ok (.andAbsoluteX 0x1234#16, []) ∧
    decode [0b00111001#8, 0x34#8, 0x12#8] = .ok (.andAbsoluteY 0x1234#16, []) ∧
    decode [0b00100001#8, 0x9A#8] = .ok (.andIndirectX 0x9A#8, []) ∧
    decode [0b00110001#8, 0x9A#8] = .ok (.andIndirectY 0x9A#8, []) := ⟨rfl, rfl, rfl, rfl, rfl, rfl, rfl, rfl⟩

theorem test_decode_ora :
    decode [0b00001001#8, 0x9A#8] = .ok (.oraImmediate 0x9A#8, []) ∧
    decode [0b00000101#8, 0x9A#8] = .ok (.oraZeroPage 0x9A#8, []) ∧
    decode [0b00010101#8, 0x9A#8] = .ok (.oraZeroPageX 0x9A#8, []) ∧
    decode [0b00001101#8, 0x34#8, 0x12#8] = .ok (.oraAbsolute 0x1234#16, []) ∧
    decode [0b00011101#8, 0x34#8, 0x12#8] = .ok (.oraAbsoluteX 0x1234#16, []) ∧
    decode [0b00011001#8, 0x34#8, 0x12#8] = .ok (.oraAbsoluteY 0x1234#16, []) ∧
    decode [0b00000001#8, 0x9A#8] = .ok (.oraIndirectX 0x9A#8, []) ∧
    decode [0b00010001#8, 0x9A#8] = .ok (.oraIndirectY 0x9A#8, []) := ⟨rfl, rfl, rfl, rfl, rfl, rfl, rfl, rfl⟩

theorem test_decode_eor :
    decode [0b01001001#8, 0x9A#8] = .ok (.eorImmediate 0x9A#8, []) ∧
    decode [0b01000101#8, 0x9A#8] = .ok (.eorZeroPage 0x9A#8, []) ∧
    decode [0b01010101#8, 0x9A#8] = .ok (.eorZeroPageX 0x9A#8, []) ∧
    decode [0b01001101#8, 0x34#8, 0x12#8] = .ok (.eorAbsolute 0x1234#16, []) ∧
    decode [0b01011101#8, 0x34#8, 0x12#8] = .ok (.eorAbsoluteX 0x1234#16, []) ∧
    decode [0b01011001#8, 0x34#8, 0x12#8] = .ok (.eorAbsoluteY 0x1234#16, []) ∧
    decode [0b01000001#8, 0x9A#8] = .ok (.eorIndirectX 0x9A#8, []) ∧
    decode [0b01010001#8, 0x9A#8] = .ok (.eorIndirectY 0x9A#8, []) := ⟨rfl, rfl, rfl, rfl, rfl, rfl, rfl, rfl⟩

theorem test_decode_asl :
    decode [0b00001010#8] = .ok (.aslAccumulator, []) ∧
    decode [0b00000110#8, 0x9A#8] = .ok (.aslZeroPage 0x9A#8, []) ∧
    decode [0b00010110#8, 0x9A#8] = .ok (.aslZeroPageX 0x9A#8, []) ∧
    decode [0b00001110#8, 0x34#8, 0x12#8] = .ok (.aslAbsolute 0x1234#16, []) ∧
    decode [0b00011110#8, 0x34#8, 0x12#8] = .ok (.aslAbsoluteX 0x1234#16, []) := ⟨rfl, rfl, rfl, rfl, rfl⟩

theorem test_decode_lsr :
    decode [0b01001010#8] = .ok (.lsrAccumulator, []) ∧
    decode [0b01000110#8, 0x9A#8] = .ok (.lsrZeroPage 0x9A#8, []) ∧
    decode [0b01010110#8, 0x9A#8] = .ok (.lsrZeroPageX 0x9A#8, []) ∧
    decode [0b01001110#8, 0x34#8, 0x12#8] = .ok (.lsrAbsolute 0x1234#16, []) ∧
    decode [0b01011110#8, 0x34#8, 0x12#8] = .ok (.lsrAbsoluteX 0x1234#16, []) := ⟨rfl, rfl, rfl, rfl, rfl⟩

theorem test_decode_rol :
    decode [0b00101010#8] = .ok (.rolAccumulator, []) ∧
    decode [0b00100110#8, 0x9A#8] = .ok (.rolZeroPage 0x9A#8, []) ∧
    decode [0b00110110#8, 0x9A#8] = .ok (.rolZeroPageX 0x9A#8, []) ∧
    decode [0b00101110#8, 0x34#8, 0x12#8] = .ok (.rolAbsolute 0x1234#16, []) ∧
    decode [0b00111110#8, 0x34#8, 0x12#8] = .ok (.rolAbsoluteX 0x1234#16, []) := ⟨rfl, rfl, rfl, rfl, rfl⟩

theorem test_decode_ror :
    decode [0b01101010#8] = .ok (.rorAccumulator, []) ∧
    decode [0b01100110#8, 0x9A#8] = .ok (.rorZeroPage 0x9A#8, []) ∧
    decode [0b01110110#8, 0x9A#8] = .ok (.rorZeroPageX 0x9A#8, []) ∧
    decode [0b01101110#8, 0x34#8, 0x12#8] = .ok (.rorAbsolute 0x1234#16, []) ∧
    decode [0b01111110#8, 0x34#8, 0x12#8] = .ok (.rorAbsoluteX 0x1234#16, []) := ⟨rfl, rfl, rfl, rfl, rfl⟩

theorem test_decode_inc :
    decode [0b11100110#8, 0x9A#8] = .ok (.incZeroPage 0x9A#8, []) ∧
    decode [0b11110110#8, 0x9A#8] = .ok (.incZeroPageX 0x9A#8, []) ∧
    decode [0b11101110#8, 0x34#8, 0x12#8] = .ok (.incAbsolute 0x1234#16, []) ∧
    decode [0b11111110#8, 0x34#8, 0x12#8] = .ok (.incAbsoluteX 0x1234#16, []) := ⟨rfl, rfl, rfl, rfl⟩

theorem test_decode_dec :
    decode [0b11000110#8, 0x9A#8] = .ok (.decZeroPage 0x9A#8, []) ∧
    decode [0b11010110#8, 0x9A#8] = .ok (.decZeroPageX 0x9A#8, []) ∧
    decode [0b11001110#8, 0x34#8, 0x12#8] = .ok (.decAbsolute 0x1234#16, []) ∧
    decode [0b11011110#8, 0x34#8, 0x12#8] = .ok (.decAbsoluteX 0x1234#16, []) := ⟨rfl, rfl, rfl, rfl⟩

theorem test_decode_inx :
    decode [0b11101000#8] = .ok (.inx, []) := rfl

theorem test_decode_dex :
    decode [0b11001010#8] = .ok (.dex, []) := rfl

theorem test_decode_iny :
    decode [0b11001000#8] = .ok (.iny, []) := rfl

theorem test_decode_dey :
    decode [0b10001000#8] = .ok (.dey, []) := rfl

theorem test_decode_cmp :
    decode [0b11001001#8, 0x9A#8] = .ok (.cmpImmediate 0x9A#8, []) ∧
    decode [0b11000101#8, 0x9A#8] = .ok (.cmpZeroPage 0x9A#8, []) ∧
    decode [0b11010101#8, 0x9A#8] = .ok (.cmpZeroPageX 0x9A#8, []) ∧
    decode [0b11001101#8, 0x34#8, 0x12#8] = .ok (.cmpAbsolute 0x1234#16, []) ∧
    decode [0b11011101#8, 0x34#8, 0x12#8] = .ok (.cmpAbsoluteX 0x1234#16, []) ∧
    decode [0b11011001#8, 0x34#8, 0x12#8] = .ok (.cmpAbsoluteY 0x1234#16, []) ∧
    decode [0b11000001#8, 0x9A#8] = .ok (.cmpIndirectX 0x9A#8, []) ∧
    decode [0b11010001#8, 0x9A#8] = .ok (.cmpIndirectY 0x9A#8, []) := ⟨rfl, rfl, rfl, rfl, rfl, rfl, rfl, rfl⟩

theorem test_decode_cpx :
    decode [0b11100000#8, 0x9A#8] = .ok (.cpxImmediate 0x9A#8, []) ∧
    decode [0b11100100#8, 0x9A#8] = .ok (.cpxZeroPage 0x9A#8, []) ∧
    decode [0b11101100#8, 0x34#8, 0x12#8] = .ok (.cpxAbsolute 0x1234#16, []) := ⟨rfl, rfl, rfl⟩

theorem test_decode_cpy :
    decode [0b11000000#8, 0x9A#8] = .ok (.cpyImmediate 0x9A#8, []) ∧
    decode [0b11000100#8, 0x9A#8] = .ok (.cpyZeroPage 0x9A#8, []) ∧
    decode [0b11001100#8, 0x34#8, 0x12#8] = .ok (.cpyAbsolute 0x1234#16, []) := ⟨rfl, rfl, rfl⟩

theorem test_decode_bit :
    decode [0b00100100#8, 0x9A#8] = .ok (.bitZeroPage 0x9A#8, []) ∧
    decode [0b00101100#8, 0x34#8, 0x12#8] = .ok (.bitAbsolute 0x1234#16, []) := ⟨rfl, rfl⟩

theorem test_decode_bcc :
    decode [0b10010000#8, 0x9A#8] = .ok (.bcc 0x9A#8, []) := rfl

theorem test_decode_bcs :
    decode [0b10110000#8, 0x9A#8] = .ok (.bcs 0x9A#8, []) := rfl

theorem test_decode_beq :
    decode [0b11110000#8, 0x9A#8] = .ok (.beq 0x9A#8, []) := rfl

theorem test_decode_bne :
    decode [0b11010000#8, 0x9A#8] = .ok (.bne 0x9A#8, []) := rfl

theorem test_decode_bmi :
    decode [0b00110000#8, 0x9A#8] = .ok (.bmi 0x9A#8, []) := rfl

theorem test_decode_bpl :
    decode [0b00010000#8, 0x9A#8] = .ok (.bpl 0x9A#8, []) := rfl

theorem test_decode_bvc :
    decode [0b01010000#8, 0x9A#8] = .ok (.bvc 0x9A#8, []) := rfl

theorem test_decode_bvs :
    decode [0b01110000#8, 0x9A#8] = .ok (.bvs 0x9A#8, []) := rfl

theorem test_decode_jmp :
    decode [0b01001100#8, 0x34#8, 0x12#8] = .ok (.jmpAbsolute 0x1234#16, []) ∧
    decode [0b01101100#8, 0x34#8, 0x12#8] = .ok (.jmpIndirect 0x1234#16, []) := ⟨rfl, rfl⟩

theorem test_decode_jsr :
    decode [0b00100000#8, 0x34#8, 0x12#8] = .ok (.jsr 0x1234#16, []) := rfl

theorem test_decode_rts :
    decode [0b01100000#8] = .ok (.rts, []) := rfl

theorem test_decode_pha :
    decode [0b01001000#8] = .ok (.pha, []) := rfl

theorem test_decode_pla :
    decode [0b01101000#8] = .ok (.pla, []) := rfl

theorem test_decode_php :
    decode [0b00001000#8] = .ok (.php, []) := rfl

theorem test_decode_plp :
    decode [0b00101000#8] = .ok (.plp, []) := rfl

theorem test_decode_sec :
    decode [0b00111000#8] = .ok (.sec, []) := rfl

theorem test_decode_clc :
    decode [0b00011000#8] = .ok (.clc, []) := rfl

theorem test_decode_sei :
    decode [0b01111000#8] = .ok (.sei, []) := rfl

theorem test_decode_cli :
    decode [0b01011000#8] = .ok (.cli, []) := rfl

theorem test_decode_sed :
    decode [0b11111000#8] = .ok (.sed, []) := rfl

theorem test_decode_cld :
    decode [0b11011000#8] = .ok (.cld, []) := rfl

theorem test_decode_clv :
    decode [0b10111000#8] = .ok (.clv, []) := rfl

theorem test_decode_nop :
    decode [0b11101010#8] = .ok (.nop, []) := rfl

theorem test_decode_brk :
    decode [0b00000000#8] = .ok (.brk, []) := rfl

-- Bytes with no table entry (R69), a word cut short, and the table's own bit numbering.

theorem test_decode_unassigned : decode [0x02#8, 0xEA#8] = .error (.unassigned 0x02#8) := rfl
theorem test_decode_rti_byte_unassigned : decode [0x40#8] = .error (.unassigned 0x40#8) := rfl
theorem test_decode_cut_short : decode [0xAD#8, 0x34#8] = .error (.truncated 0xAD#8) := rfl
theorem test_table_word_two_bytes : decodeTableWord 16 0xC0A9 = some (.ldaImmediate 0xC0) := rfl
theorem test_table_word_three_bytes : decodeTableWord 24 0x30FF6C = some (.jmpIndirect 0x30FF) := rfl
theorem test_table_word_short_row : decodeTableWord 8 0x8D = some (.staAbsolute 0x0000) := rfl
theorem test_table_word_unassigned : decodeTableWord 8 0xFF = none := rfl
theorem test_fetch_word_runs_first :
    step (State.reset.withFetchWord 16 0xC0A9) = exec (.ldaImmediate 0xC0) (State.reset.withFetchWord 16 0xC0A9) := rfl

-- The state after reset (10_state.md R36; SP and the memory image are log entries 1 and 2).

theorem test_reset_registers :
    (State.reset.a, State.reset.x, State.reset.y, State.reset.sp, State.reset.p, State.reset.pc) =
      (0x00, 0x00, 0x00, 0xFD, 0x24, 0x0000) := by decide

-- A launch with another image and another SP_RESET (R245, R247), and the truncation of the mutators (R37).

theorem test_reset_over_an_image :
    let s := State.afterReset 0x00 [(0xFFFC, 0x00), (0xFFFD, 0x06)]
    (s.pc, s.sp, s.p) = (0x0600, 0x00, 0x24) := by decide

theorem test_image_of_bytes : Memory.ofBytes 0x0600 [0xA9, 0x00, 0x85] = [(0x0600, 0xA9), (0x0602, 0x85)] := by decide

theorem test_mutators_truncate :
    (hostSetA 0x1C0 State.reset).a = 0xC0 ∧ (hostSetA 0x100 State.reset).p = 0x24 ∧
    (hostSetStatus 0x3FF State.reset).p = 0xFF ∧ (hostSetProgramCounter 0x18000 State.reset).pc = 0x8000 := by decide

-- Single steps: the vectors of 95_test_vectors.md, named after the instruction and the vector.

theorem test_ldaImmediate_am1 : StepsTo (start 0x0600 [0xA9, 0x80])
    fun s => { s with a := 0x80, p := 0xA4, pc := 0x0602 } := by decide
theorem test_ldaZeroPageX_am3 : StepsTo { start 0x0600 [0xB5, 0xF0] [(0x0010, 0x37), (0x0110, 0x99)] with x := 0x20 }
    fun s => { s with a := 0x37, pc := 0x0602 } := by decide
theorem test_ldxZeroPageY_am4 : StepsTo { start 0x0600 [0xB6, 0xF0] [(0x0010, 0x37), (0x0110, 0x99)] with y := 0x20 }
    fun s => { s with x := 0x37, pc := 0x0602 } := by decide
theorem test_ldaAbsoluteX_am7 : StepsTo { start 0x0600 [0xBD, 0xFF, 0xFF] [(0x0001, 0x77)] with x := 0x02 }
    fun s => { s with a := 0x77, pc := 0x0603 } := by decide
theorem test_ldaAbsoluteY_am8 : StepsTo { start 0x0600 [0xB9, 0xF0, 0xFF] [(0x0010, 0x88)] with y := 0x20 }
    fun s => { s with a := 0x88, p := 0xA4, pc := 0x0603 } := by decide
theorem test_ldaIndirectX_am10 : StepsTo { start 0x0600 [0xA1, 0xFE] [(0x0000, 0x12), (0x00FF, 0x34), (0x0100, 0x99), (0x1234, 0xCD), (0x9934, 0xEE)] with x := 0x01 }
    fun s => { s with a := 0xCD, p := 0xA4, pc := 0x0602 } := by decide
theorem test_ldaIndirectX_am11 : StepsTo { start 0x0600 [0xA1, 0xFF] [(0x0004, 0x00), (0x0005, 0x30), (0x3000, 0x5A)] with x := 0x05 }
    fun s => { s with a := 0x5A, pc := 0x0602 } := by decide
theorem test_ldaIndirectY_am12 : StepsTo { start 0x0600 [0xB1, 0x86] [(0x0086, 0x28), (0x0087, 0x40), (0x4038, 0xBC)] with y := 0x10 }
    fun s => { s with a := 0xBC, p := 0xA4, pc := 0x0602 } := by decide
theorem test_ldaIndirectY_am13 : StepsTo { start 0x0600 [0xB1, 0xFF] [(0x0000, 0xFF), (0x0010, 0x9A), (0x00FF, 0xF0), (0x0100, 0x12)] with y := 0x20 }
    fun s => { s with a := 0x9A, p := 0xA4, pc := 0x0602 } := by decide
theorem test_staIndirectY_am14 : StepsTo { start 0x0600 [0x91, 0x40] [(0x0040, 0x01), (0x0041, 0x02)] with a := 0x5C, y := 0xFF }
    fun s => { storing s [(0x0300, 0x5C)] with pc := 0x0602 } := by decide
theorem test_ldyImmediate_ls3 : StepsTo { start 0x0600 [0xA0, 0x01] with p := 0xFF }
    fun s => { s with y := 0x01, p := 0x7D, pc := 0x0602 } := by decide
theorem test_ldxAbsoluteY_ls5 : StepsTo { start 0x0600 [0xBE, 0x00, 0x20] [(0x2005, 0x00)] with y := 0x05 }
    fun s => { s with p := 0x26, pc := 0x0603 } := by decide
theorem test_staAbsoluteX_ls7 : StepsTo { start 0x0600 [0x9D, 0x00, 0x02] with a := 0x42, x := 0x10 }
    fun s => { storing s [(0x0210, 0x42)] with pc := 0x0603 } := by decide
theorem test_stxZeroPageY_ls9 : StepsTo { start 0x0600 [0x96, 0xFF] with x := 0x77, y := 0x02 }
    fun s => { storing s [(0x0001, 0x77)] with pc := 0x0602 } := by decide
theorem test_styAbsolute_ls10 : StepsTo { start 0x0600 [0x8C, 0xFF, 0x01] with y := 0x99 }
    fun s => { storing s [(0x01FF, 0x99)] with pc := 0x0603 } := by decide
theorem test_staAbsolute_ls11 : StepsTo { start 0x0600 [0x8D, 0x02, 0x06, 0xEA] with a := 0x00 }
    fun s => { storing s [(0x0602, 0x00)] with pc := 0x0603 } := by decide
theorem test_tax_ls12 : StepsTo { start 0x0600 [0xAA] with a := 0x00, x := 0x55 }
    fun s => { s with x := 0x00, p := 0x26, pc := 0x0601 } := by decide
theorem test_txa_ls13 : StepsTo { start 0x0600 [0x8A] with x := 0x80 }
    fun s => { s with a := 0x80, p := 0xA4, pc := 0x0601 } := by decide
theorem test_tay_ls14 : StepsTo { start 0x0600 [0xA8] with a := 0x7F }
    fun s => { s with y := 0x7F, pc := 0x0601 } := by decide
theorem test_tya_ls15 : StepsTo { start 0x0600 [0x98] with y := 0x80, a := 0x01 }
    fun s => { s with a := 0x80, p := 0xA4, pc := 0x0601 } := by decide
theorem test_tsx_ls16 : StepsTo (start 0x0600 [0xBA])
    fun s => { s with x := 0xFD, p := 0xA4, pc := 0x0601 } := by decide
theorem test_txs_ls19 : StepsTo { start 0x0600 [0x9A] with x := 0x00, p := 0x24 }
    fun s => { s with sp := 0x00, pc := 0x0601 } := by decide
theorem test_adcImmediate_ar6 : StepsTo { start 0x0600 [0x69, 0xFF] with a := 0xFF, p := 0x25 }
    fun s => { s with p := 0xA5, pc := 0x0602 } := by decide
theorem test_adcImmediate_ar13 : StepsTo { start 0x0600 [0x69, 0x01] with a := 0x09, p := 0x2C }
    fun s => { s with a := 0x0A, pc := 0x0602 } := by decide
theorem test_adcIndirectY_ar16 : StepsTo { start 0x0600 [0x71, 0x10] [(0x0010, 0xFF), (0x0011, 0x02), (0x0300, 0x0E)] with a := 0x01, y := 0x01, p := 0x25 }
    fun s => { s with a := 0x10, p := 0x24, pc := 0x0602 } := by decide
theorem test_sbcImmediate_sb2 : StepsTo { start 0x0600 [0xE9, 0xB0] with a := 0x50, p := 0x25 }
    fun s => { s with a := 0xA0, p := 0xE4, pc := 0x0602 } := by decide
theorem test_sbcImmediate_sb13 : StepsTo { start 0x0600 [0xE9, 0x01] with a := 0x10, p := 0x2D }
    fun s => { s with a := 0x0F, pc := 0x0602 } := by decide
theorem test_sbcAbsoluteX_sb14 : StepsTo { start 0x0600 [0xFD, 0x00, 0x03] [(0x0301, 0x20)] with a := 0x10, x := 0x01, p := 0x25 }
    fun s => { s with a := 0xF0, p := 0xA4, pc := 0x0603 } := by decide
theorem test_andImmediate_lg2 : StepsTo { start 0x0600 [0x29, 0xF0] with a := 0x9C, p := 0x65 }
    fun s => { s with a := 0x90, p := 0xE5, pc := 0x0602 } := by decide
theorem test_oraAbsolute_lg6 : StepsTo { start 0x0600 [0x0D, 0x00, 0x03] [(0x0300, 0x50)] with a := 0x0A }
    fun s => { s with a := 0x5A, pc := 0x0603 } := by decide
theorem test_eorAbsoluteY_lg9 : StepsTo { start 0x0600 [0x59, 0x00, 0x03] [(0x0302, 0x03)] with a := 0x0F, y := 0x02 }
    fun s => { s with a := 0x0C, pc := 0x0603 } := by decide
theorem test_aslAccumulator_sh2 : StepsTo { start 0x0600 [0x0A] with a := 0x40, p := 0x25 }
    fun s => { s with a := 0x80, p := 0xA4, pc := 0x0601 } := by decide
theorem test_aslAbsoluteX_sh3 : StepsTo { start 0x0600 [0x1E, 0x00, 0x03] [(0x0301, 0xC1)] with x := 0x01 }
    fun s => { storing s [(0x0301, 0x82)] with p := 0xA5, pc := 0x0603 } := by decide
theorem test_lsrAccumulator_sh5 : StepsTo { start 0x0600 [0x4A] with a := 0xFF, p := 0xA4 }
    fun s => { s with a := 0x7F, p := 0x25, pc := 0x0601 } := by decide
theorem test_lsrZeroPage_sh6 : StepsTo (start 0x0600 [0x46, 0x10] [(0x0010, 0x02)])
    fun s => { storing s [(0x0010, 0x01)] with pc := 0x0602 } := by decide
theorem test_rolAccumulator_sh7 : StepsTo { start 0x0600 [0x2A] with a := 0x80, p := 0x25 }
    fun s => { s with a := 0x01, pc := 0x0601 } := by decide
theorem test_rolZeroPageX_sh9 : StepsTo { start 0x0600 [0x36, 0x10] [(0x0011, 0x40)] with x := 0x01, p := 0x25 }
    fun s => { storing s [(0x0011, 0x81)] with p := 0xA4, pc := 0x0602 } := by decide
theorem test_rorAccumulator_sh10 : StepsTo { start 0x0600 [0x6A] with a := 0x01, p := 0x25 }
    fun s => { s with a := 0x80, p := 0xA5, pc := 0x0601 } := by decide
theorem test_rorAbsolute_sh13 : StepsTo { start 0x0600 [0x6E, 0x00, 0x03] [(0x0300, 0xFE)] with p := 0x25 }
    fun s => { storing s [(0x0300, 0xFF)] with p := 0xA4, pc := 0x0603 } := by decide
theorem test_incZeroPage_id1 : StepsTo { start 0x0600 [0xE6, 0x10] [(0x0010, 0xFF)] with p := 0x25 }
    fun s => { storing s [(0x0010, 0x00)] with p := 0x27, pc := 0x0602 } := by decide
theorem test_incAbsoluteX_id2 : StepsTo { start 0x0600 [0xFE, 0x00, 0x03] [(0x0302, 0x7F)] with x := 0x02 }
    fun s => { storing s [(0x0302, 0x80)] with p := 0xA4, pc := 0x0603 } := by decide
theorem test_decZeroPage_id3 : StepsTo (start 0x0600 [0xC6, 0x10] [(0x0010, 0x00)])
    fun s => { storing s [(0x0010, 0xFF)] with p := 0xA4, pc := 0x0602 } := by decide
theorem test_decAbsolute_id4 : StepsTo (start 0x0600 [0xCE, 0x00, 0x03] [(0x0300, 0x01)])
    fun s => { storing s [(0x0300, 0x00)] with p := 0x26, pc := 0x0603 } := by decide
theorem test_inx_id5 : StepsTo { start 0x0600 [0xE8] with x := 0x7F }
    fun s => { s with x := 0x80, p := 0xA4, pc := 0x0601 } := by decide
theorem test_dex_id6 : StepsTo { start 0x0600 [0xCA] with x := 0x00 }
    fun s => { s with x := 0xFF, p := 0xA4, pc := 0x0601 } := by decide
theorem test_iny_id8 : StepsTo { start 0x0600 [0xC8] with y := 0xFF }
    fun s => { s with y := 0x00, p := 0x26, pc := 0x0601 } := by decide
theorem test_dey_id9 : StepsTo { start 0x0600 [0x88] with y := 0x00 }
    fun s => { s with y := 0xFF, p := 0xA4, pc := 0x0601 } := by decide
theorem test_cmpImmediate_cb3 : StepsTo { start 0x0600 [0xC9, 0x01] with a := 0x80 }
    fun s => { s with p := 0x25, pc := 0x0602 } := by decide
theorem test_cmpIndirectY_cb6 : StepsTo { start 0x0600 [0xD1, 0x10] [(0x0010, 0x00), (0x0011, 0x03), (0x0301, 0x10)] with a := 0x10, y := 0x01 }
    fun s => { s with p := 0x27, pc := 0x0602 } := by decide
theorem test_cpxZeroPage_cb8 : StepsTo { start 0x0600 [0xE4, 0x10] [(0x0010, 0x01)] with x := 0x00 }
    fun s => { s with p := 0xA4, pc := 0x0602 } := by decide
theorem test_cpyAbsolute_cb10 : StepsTo { start 0x0600 [0xCC, 0x00, 0x03] [(0x0300, 0x80)] with y := 0x7F }
    fun s => { s with p := 0xA4, pc := 0x0603 } := by decide
theorem test_bitZeroPage_cb12 : StepsTo { start 0x0600 [0x24, 0x10] [(0x0010, 0x40)] with a := 0xFF, p := 0xA4 }
    fun s => { s with p := 0x64, pc := 0x0602 } := by decide
theorem test_bitAbsolute_cb13 : StepsTo { start 0x0600 [0x2C, 0x00, 0x03] [(0x0300, 0xF0)] with a := 0x0F }
    fun s => { s with p := 0xE6, pc := 0x0603 } := by decide
theorem test_bne_cf2 : StepsTo { start 0x0600 [0xD0, 0xFB] with p := 0x26 }
    fun s => { s with pc := 0x0602 } := by decide
theorem test_beq_cf3 : StepsTo { start 0x0600 [0xF0, 0x10] with p := 0x26 }
    fun s => { s with pc := 0x0612 } := by decide
theorem test_bcc_cf5 : StepsTo (start 0x0600 [0x90, 0x7F])
    fun s => { s with pc := 0x0681 } := by decide
theorem test_bcs_cf7 : StepsTo { start 0x0600 [0xB0, 0x80] with p := 0x25 }
    fun s => { s with pc := 0x0582 } := by decide
theorem test_bmi_cf9 : StepsTo { start 0x0600 [0x30, 0x02] with p := 0xA4 }
    fun s => { s with pc := 0x0604 } := by decide
theorem test_bpl_cf11 : StepsTo (start 0x0600 [0x10, 0x02])
    fun s => { s with pc := 0x0604 } := by decide
theorem test_bvc_cf13 : StepsTo (start 0x0600 [0x50, 0x02])
    fun s => { s with pc := 0x0604 } := by decide
theorem test_bvs_cf15 : StepsTo { start 0x0600 [0x70, 0x02] with p := 0x64 }
    fun s => { s with pc := 0x0604 } := by decide
theorem test_bne_cf19 : StepsTo (start 0x0600 [0xD0, 0xFF])
    fun s => { s with pc := 0x0602 } := by decide
theorem test_jmpIndirect_cf22 : StepsTo (start 0x0600 [0x6C, 0xFF, 0x30] [(0x3000, 0x80), (0x30FF, 0x40), (0x3100, 0x50)])
    fun s => { s with pc := 0x8040 } := by decide
theorem test_jmpIndirect_cf24 : StepsTo (start 0x0600 [0x6C, 0xFF, 0xFF] [(0xFF00, 0x22), (0xFFFF, 0x11)])
    fun s => { s with pc := 0x2211 } := by decide
theorem test_jmpAbsolute_cf26 : StepsTo (start 0x0600 [0x4C, 0x01, 0x06])
    fun s => { s with pc := 0x0603 } := by decide
theorem test_jsr_cf28 : StepsTo { start 0x0600 [0x20, 0x00, 0x90] with sp := 0x00 }
    fun s => { storing s [(0x0100, 0x06), (0x01FF, 0x02)] with sp := 0xFE, pc := 0x9000 } := by decide
theorem test_rts_cf31 : StepsTo { start 0x0600 [0x60] [(0x0100, 0xFF), (0x0101, 0xFF)] with sp := 0xFF }
    fun s => { s with sp := 0x01, pc := 0x0000 } := by decide
theorem test_pha_st2 : StepsTo { start 0x0600 [0x48] with a := 0x11, sp := 0x00 }
    fun s => { storing s [(0x0100, 0x11)] with sp := 0xFF, pc := 0x0601 } := by decide
theorem test_pla_st3 : StepsTo { start 0x0600 [0x68] [(0x01FD, 0x00)] with sp := 0xFC, a := 0x55 }
    fun s => { s with a := 0x00, sp := 0xFD, p := 0x26, pc := 0x0601 } := by decide
theorem test_php_st6 : StepsTo (start 0x0600 [0x08])
    fun s => { storing s [(0x01FD, 0x24)] with sp := 0xFC, pc := 0x0601 } := by decide
theorem test_plp_st8 : StepsTo { start 0x0600 [0x28] [(0x01FD, 0x00)] with sp := 0xFC }
    fun s => { s with sp := 0xFD, p := 0x00, pc := 0x0601 } := by decide
theorem test_sec_fl1 : StepsTo (start 0x0600 [0x38])
    fun s => { s with p := 0x25, pc := 0x0601 } := by decide
theorem test_clc_fl2 : StepsTo { start 0x0600 [0x18] with p := 0xFF }
    fun s => { s with p := 0xFE, pc := 0x0601 } := by decide
theorem test_sei_fl3 : StepsTo { start 0x0600 [0x78] with p := 0x20 }
    fun s => { s with p := 0x24, pc := 0x0601 } := by decide
theorem test_cli_fl4 : StepsTo (start 0x0600 [0x58])
    fun s => { s with p := 0x20, pc := 0x0601 } := by decide
theorem test_sed_fl5 : StepsTo (start 0x0600 [0xF8])
    fun s => { s with p := 0x2C, pc := 0x0601 } := by decide
theorem test_cld_fl6 : StepsTo { start 0x0600 [0xD8] with p := 0xFF }
    fun s => { s with p := 0xF7, pc := 0x0601 } := by decide
theorem test_clv_fl7 : StepsTo { start 0x0600 [0xB8] with p := 0xFF }
    fun s => { s with p := 0xBF, pc := 0x0601 } := by decide
theorem test_nop_fl8 : StepsTo { start 0x0600 [0xEA] with a := 0x12, x := 0x34, y := 0x56, p := 0xE7 }
    fun s => { s with pc := 0x0601 } := by decide
theorem test_brk_hf1 : StepsTo { start 0x0600 [0x00, 0xEA] with a := 0x12, p := 0xE7 }
    fun s => { s with pc := 0x0601, runState := .halted } := by decide
theorem test_unassigned_hf3 : StepsTo { start 0x0600 [0x40] with sp := 0xFA }
    fun s => { s with pc := 0x0601, runState := .halted } := by decide
theorem test_ldaAbsolute_hf6 : StepsTo (start 0xFFFE [0xAD, 0x00] [(0x0000, 0x12)])
    fun s => { s with pc := 0xFFFF, runState := .faulted ⟨0x10000⟩ } := by decide
theorem test_jsr_hf8 : StepsTo (start 0xFFFE [0x20, 0x00])
    fun s => { s with pc := 0xFFFF, runState := .faulted ⟨0x10000⟩ } := by decide
theorem test_staAbsoluteX_hf9 : StepsTo { start 0xFFFE [0x9D, 0x00] with a := 0x55, x := 0x01 }
    fun s => { s with pc := 0xFFFF, runState := .faulted ⟨0x10000⟩ } := by decide
theorem test_ldaAbsolute_hf12 : StepsTo (start 0xFFFD [0xAD, 0x34, 0x12] [(0x1234, 0x5A)])
    fun s => { s with a := 0x5A, pc := 0x0000 } := by decide
theorem test_ldaZeroPage_hf13 : StepsTo (start 0xFFFE [0xA5, 0x10] [(0x0010, 0x77)])
    fun s => { s with a := 0x77, pc := 0x0000 } := by decide
theorem test_ldaImmediate_hf15 : StepsTo (start 0xFFFF [0xA9, 0x33])
    fun s => { s with a := 0x33, pc := 0x0001 } := by decide

-- Witnesses: states and operands that meet the hypotheses of each obligation that has any, at the ends of their ranges.

theorem inForm {i : Instr} {o : Operand} {m : Mnemonic} {s : State} (ho : i.operand = some o) (hm : i.mnemonic = m)
    (hr : i.length = 3 → s.pc ≠ 0xFFFE#16) : InForm i o m s := ⟨ho, hm, hr⟩

/-- EncodeOfDecodeIsTheBytes. -/
theorem witness_decodes : decode [0x6C#8, 0xFF#8, 0x30#8, 0xEA#8] = .ok (.jmpIndirect 0x30FF#16, [0xEA#8]) := rfl

/-- StepRunsTheDecodedInstruction, with an instruction the bytes of which wrap past the top of memory. -/
theorem witness_step_runs :
    let s := start 0xFFFF [0xA9, 0x33]
    s.runState = .running ∧
      decode [s.readByte s.pc, s.readByte (s.pc + 1), s.readByte (s.pc + 2)] = .ok (.ldaImmediate 0x33#8, [0x00#8]) :=
  ⟨rfl, rfl⟩

/-- HaltCodeOrAbsentHalts: the halt code, and a byte with no table entry. -/
theorem witness_halts :
    ((start 0x0600 [0x00]).runState = .running ∧ (start 0x0600 [0x00]).readByte 0x0600 = 0x00#8) ∧
    (start 0xFFFF [0xFF]).runState = .running ∧ opcodeShape ((start 0xFFFF [0xFF]).readByte 0xFFFF) = none :=
  ⟨⟨rfl, rfl⟩, rfl, rfl⟩

/-- RunningEngineAlwaysSteps: the state after reset. -/
theorem witness_running : State.reset.runState = .running := rfl

/-- NoStepAfterTheEnd: both terminal run states. -/
theorem witness_ended :
    (start 0x0600 []).halt.runState = .halted ∧
    (faultedState (start 0xFFFE [0xAD])).runState = .faulted ⟨0x10000⟩ := ⟨rfl, rfl⟩

/-- InstructionEndsHaltedOrFaultedExactlyWhen: BRK halts; a load at 0xFFFE faults, at 0xFFFD it goes on. -/
theorem witness_instruction_ends :
    (∃ t, exec .brk (start 0xFFFE [0x00]) = .next t ∧ t.runState = .halted) ∧
    (∃ t, exec (.ldaAbsolute 0x1234) (start 0xFFFE [0xAD]) = .next t ∧ t.runState = .faulted ⟨0x10000⟩) ∧
    ∃ t, exec (.ldaAbsolute 0x1234) (start 0xFFFD [0xAD]) = .next t ∧ t.runState = .running :=
  ⟨⟨_, rfl, rfl⟩, ⟨_, rfl, rfl⟩, _, rfl, rfl⟩

/-- WordOperandAtTopFaults: a store and a call. -/
theorem witness_word_at_top :
    (Instr.staAbsoluteX 0x0000).length = 3 ∧ (Instr.jsr 0x0000).length = 3 ∧ (start 0xFFFE []).pc = 0xFFFE#16 := by
  decide

/-- SequentialInstructionsAdvanceByLength: two bytes at 0xFFFE, three at 0xFFFD. -/
theorem witness_sequential :
    (OperandInRange (.ldaZeroPage 0x10) (start 0xFFFE [0xA5, 0x10]) ∧ redirects (.ldaZeroPage 0x10) = false) ∧
    OperandInRange (.staAbsolute 0x1234) (start 0xFFFD [0x8D, 0x34, 0x12]) ∧ redirects (.staAbsolute 0x1234) = false :=
  ⟨⟨by unfold OperandInRange; decide, rfl⟩, by unfold OperandInRange; decide, rfl⟩

/-- StepKeepsMemoryCanonical: a store that lists a cell, and one that takes a cell out of the list. -/
theorem witness_memory_canonical :
    (MemoryCanonical (start 0x0600 [0x86, 0xFF]) ∧ ∃ t, step { start 0x0600 [0x86, 0xFF] with x := 0x77 } = .next t) ∧
    MemoryCanonical (start 0x0600 [0x86, 0x10] [(0x0010, 0x55)]) ∧
      ∃ t, step (start 0x0600 [0x86, 0x10] [(0x0010, 0x55)]) = .next t :=
  ⟨⟨by unfold MemoryCanonical; decide, _, rfl⟩, by unfold MemoryCanonical; decide, _, rfl⟩

/-- StepKeepsEndStatesTruthful: a step that halts, and one that faults. -/
theorem witness_end_states :
    (HaltedPastHaltByte (start 0x0600 [0x02]) ∧ FaultedAtTop (start 0x0600 [0x02]) ∧
      ∃ t, step (start 0x0600 [0x02]) = .next t ∧ t.runState = .halted) ∧
    HaltedPastHaltByte (start 0xFFFE [0xAD]) ∧ FaultedAtTop (start 0xFFFE [0xAD]) ∧
      ∃ t, step (start 0xFFFE [0xAD]) = .next t ∧ t.runState = .faulted ⟨0x10000⟩ :=
  ⟨⟨fun h => absurd h (show RunState.running ≠ .halted by decide),
      fun _ h => absurd h (show RunState.running ≠ .faulted _ by simp), _, rfl, rfl⟩,
    fun h => absurd h (show RunState.running ≠ .halted by decide),
    fun _ h => absurd h (show RunState.running ≠ .faulted _ by simp), _, rfl, rfl⟩

/-- ResetCallLeavesTheResetState: an image that lists nothing, in a state that is not the reset state. -/
theorem witness_reset_call : ({ State.reset with a := 0x55, runState := .halted } : State).memory = [] := rfl

/-- ResetMeetsTheInvariants: a state that has halted, over an image that lists cells. -/
theorem witness_reset_canonical : MemoryCanonical (start 0x0600 [0xA9, 0x80] [(0xFFFD, 0x06)]).halt := by
  unfold MemoryCanonical
  decide

/-- RunIsIteratedStep: a run that halts, one that faults, one still running, and two that have already ended. -/
theorem witness_run :
    (∃ t, run 4 (start 0x8000 [0xA9, 0xC0, 0x00]) = .halted t ∧ t.a = 0xC0) ∧
    (∃ t, run 1 (start 0xFFFE [0x4C]) = .faulted ⟨0x10000⟩ t) ∧
    (∃ t, run 1 (start 0x8000 [0xA9, 0xC0, 0x00]) = .unfinished t ∧ t.runState = .running ∧ t.pc = 0x8002) ∧
    (∃ t, run 0 (start 0x0600 []).halt = .halted t) ∧
    ∃ t, run 3 (faultedState (start 0xFFFE [0x4C])) = .faulted ⟨0x10000⟩ t :=
  ⟨⟨_, rfl, rfl⟩, ⟨_, rfl⟩, ⟨_, rfl, rfl, rfl⟩, ⟨_, rfl⟩, _, rfl⟩

/-- OperandAddresses, the indirect mode: in range with and without the page wrap, and at the one snapshot that faults. -/
theorem witness_indirect_mode :
    (Operand.indirect 0x30FF).resolve (start 0x0601 [] [(0x3000, 0x80), (0x30FF, 0x40), (0x3100, 0x50)]) =
      .ok 0x8040#16 ∧
    (Operand.indirect 0x1234).resolve (start 0xFFFE [] [(0x1234, 0x78), (0x1235, 0x56)]) = .ok 0x5678#16 ∧
    (Operand.indirect 0x1234).resolve (start 0xFFFF []) = .error ⟨0x10000⟩ := ⟨rfl, rfl, rfl⟩

/-- BusReadsAndWrites: a word read at 0xFFFF and at 0xFFFE. -/
theorem witness_word_read :
    (start 0x0600 []).readWord 0xFFFF = .error ⟨0x10000⟩ ∧
    (start 0x0600 [] [(0xFFFE, 0x34), (0xFFFF, 0x12)]).readWord 0xFFFE = .ok 0x1234#16 := ⟨rfl, rfl⟩

/-- OperandByteIsTheByteAtTheAddress. -/
theorem witness_not_immediate : (Operand.zeroPageX 0xF0).mode ≠ .immediate := by decide

/-- LoadsWriteRegisterZN: each register, at the ends of the range of PC. -/
theorem witness_loads :
    InForm (.ldaAbsolute 0x1234) (.absolute 0x1234) .lda (start 0xFFFD [0xAD, 0x34, 0x12]) ∧
    InForm (.ldxZeroPageY 0xF0) (.zeroPageY 0xF0) .ldx (start 0xFFFE [0xB6, 0xF0]) ∧
    InForm (.ldyImmediate 0x01) (.immediate 0x01) .ldy (start 0xFFFF [0xA0, 0x01]) :=
  ⟨inForm rfl rfl (by decide), inForm rfl rfl (by decide), inForm rfl rfl (by decide)⟩

/-- StoresWriteOneByte. -/
theorem witness_stores :
    InForm (.staIndirectY 0xFF) (.indirectY 0xFF) .sta (start 0xFFFE [0x91, 0xFF]) ∧
    InForm (.stxAbsolute 0x0602) (.absolute 0x0602) .stx (start 0x0600 [0x8E, 0x02, 0x06]) ∧
    InForm (.styZeroPageX 0x80) (.zeroPageX 0x80) .sty (start 0xFFFE [0x94, 0x80]) :=
  ⟨inForm rfl rfl (by decide), inForm rfl rfl (by decide), inForm rfl rfl (by decide)⟩

/-- AdcAddsWithCarry and AdcOverflowIsSignedOverflow; the carry in alone makes this sum overflow. -/
theorem witness_adc :
    let s := { start 0x0600 [0x69, 0x00] with a := 0x7F, p := 0x25 }
    InForm (.adcImmediate 0x00) (.immediate 0x00) .adc s ∧
      ∃ t, exec (.adcImmediate 0x00) s = .next t ∧ t.flag .v = true ∧ t.a = 0x80 :=
  ⟨inForm rfl rfl (by decide), _, rfl, rfl, rfl⟩

/-- SbcSubtractsWithBorrow. -/
theorem witness_sbc :
    InForm (.sbcAbsoluteX 0x0300) (.absoluteX 0x0300) .sbc (start 0xFFFF [0xFD, 0x00, 0x03]) :=
  inForm rfl rfl (by decide)

/-- LogicCombinesWithA. -/
theorem witness_logic :
    InForm (.andZeroPageX 0x10) (.zeroPageX 0x10) .and (start 0xFFFE [0x35, 0x10]) ∧
    InForm (.oraAbsolute 0x0300) (.absolute 0x0300) .ora (start 0xFFFD [0x0D, 0x00, 0x03]) ∧
    InForm (.eorIndirectX 0xFF) (.indirectX 0xFF) .eor (start 0x0600 [0x41, 0xFF]) :=
  ⟨inForm rfl rfl (by decide), inForm rfl rfl (by decide), inForm rfl rfl (by decide)⟩

/-- ShiftsOfMemory. -/
theorem witness_shifts :
    InForm (.aslAbsoluteX 0xFFFF) (.absoluteX 0xFFFF) .asl (start 0xFFFD [0x1E, 0xFF, 0xFF]) ∧
    InForm (.lsrZeroPage 0x10) (.zeroPage 0x10) .lsr (start 0xFFFE [0x46, 0x10]) ∧
    InForm (.rolZeroPageX 0x10) (.zeroPageX 0x10) .rol (start 0x0600 [0x36, 0x10]) ∧
    InForm (.rorAbsolute 0x0300) (.absolute 0x0300) .ror (start 0x0600 [0x6E, 0x00, 0x03]) :=
  ⟨inForm rfl rfl (by decide), inForm rfl rfl (by decide), inForm rfl rfl (by decide), inForm rfl rfl (by decide)⟩

/-- IncrementsOfMemory. -/
theorem witness_increments :
    InForm (.incZeroPage 0x10) (.zeroPage 0x10) .inc (start 0xFFFE [0xE6, 0x10]) ∧
    InForm (.decAbsoluteX 0x0300) (.absoluteX 0x0300) .dec (start 0xFFFD [0xDE, 0x00, 0x03]) :=
  ⟨inForm rfl rfl (by decide), inForm rfl rfl (by decide)⟩

/-- ComparesSetFlagsOnly. -/
theorem witness_compares :
    InForm (.cmpAbsoluteY 0xFFF0) (.absoluteY 0xFFF0) .cmp (start 0xFFFD [0xD9, 0xF0, 0xFF]) ∧
    InForm (.cpxImmediate 0x10) (.immediate 0x10) .cpx (start 0xFFFE [0xE0, 0x10]) ∧
    InForm (.cpyZeroPage 0x10) (.zeroPage 0x10) .cpy (start 0x0600 [0xC4, 0x10]) :=
  ⟨inForm rfl rfl (by decide), inForm rfl rfl (by decide), inForm rfl rfl (by decide)⟩

/-- BitTestsMemory. -/
theorem witness_bit :
    InForm (.bitAbsolute 0x0300) (.absolute 0x0300) .bit (start 0xFFFD [0x2C, 0x00, 0x03]) :=
  inForm rfl rfl (by decide)

/-- BranchesRedirectPC: each branch, with the state after reset (P = 0x24) taking four of them. -/
theorem witness_branches :
    branchCondition (Instr.bcc 0x7F).mnemonic = some (.c, false) ∧
    branchCondition (Instr.bcs 0x80).mnemonic = some (.c, true) ∧
    branchCondition (Instr.beq 0x10).mnemonic = some (.z, true) ∧
    branchCondition (Instr.bne 0xFF).mnemonic = some (.z, false) ∧
    branchCondition (Instr.bmi 0x02).mnemonic = some (.n, true) ∧
    branchCondition (Instr.bpl 0xFE).mnemonic = some (.n, false) ∧
    branchCondition (Instr.bvc 0x02).mnemonic = some (.v, false) ∧
    branchCondition (Instr.bvs 0x02).mnemonic = some (.v, true) ∧
    (Instr.bne 0xFF).operand = some (.relative 0xFF) := ⟨rfl, rfl, rfl, rfl, rfl, rfl, rfl, rfl, rfl⟩

/-- JumpsRedirectPC, JsrPushesAndJumps and RtsReturnsPastItsJsr: PC on both sides of the one address left out. -/
theorem witness_jumps : (start 0xFFFD []).pc ≠ 0xFFFE#16 ∧ (start 0xFFFF []).pc ≠ 0xFFFE#16 := by decide

/-- IndirectJumpWrapsInPage. -/
theorem witness_indirect_jump :
    let s := start 0x0600 [0x6C, 0xFF, 0x30] [(0x3000, 0x80), (0x30FF, 0x40), (0x3100, 0x50)]
    s.pc ≠ 0xFFFE#16 ∧
      wordOfBytes (s.readByte (wordOfBytes 0x30 0x00)) (s.readByte (wordOfBytes 0x30 0xFF)) ≠ s.pc + 1 := by decide

/-- PlpRestoresWhatPhpPushed, with SP at both ends of the stack page. -/
theorem witness_php_plp :
    (∃ t u, exec .php { start 0x0600 [0x08, 0x28] with sp := 0x00 } = .next t ∧ exec .plp (t.setP 0xFF) = .next u) ∧
    ∃ t u, exec .php { start 0x0600 [0x08, 0x28] with sp := 0xFF } = .next t ∧ exec .plp (t.setP 0x00) = .next u :=
  ⟨⟨_, _, rfl, rfl⟩, _, _, rfl, rfl⟩

/-- OnlyListedInstructionsWriteRegisters: LDX writes no A, Y or SP; STA no X. -/
theorem witness_register_writers :
    (∃ t, exec (.ldxImmediate 0x05) (start 0x0600 [0xA2, 0x05]) = .next t) ∧
    writesA (.ldxImmediate 0x05) = false ∧ writesY (.ldxImmediate 0x05) = false ∧
    writesSP (.ldxImmediate 0x05) = false ∧
    (∃ t, exec (.staZeroPage 0x05) (start 0x0600 [0x85, 0x05]) = .next t) ∧ writesX (.staZeroPage 0x05) = false :=
  ⟨⟨_, rfl⟩, rfl, rfl, rfl, ⟨_, rfl⟩, rfl⟩

/-- OnlyListedInstructionsWriteFlags: LDA and carry, ADC and decimal. -/
theorem witness_flag_writers :
    (∃ t, exec (.ldaImmediate 0x05) (start 0x0600 [0xA9, 0x05]) = .next t) ∧
    (Instr.ldaImmediate 0x05).mnemonic ∉ flagWriters .c ∧
    (∃ t, exec (.adcImmediate 0x05) (start 0x0600 [0x69, 0x05]) = .next t) ∧
    (Instr.adcImmediate 0x05).mnemonic ∉ flagWriters .d :=
  ⟨⟨_, rfl⟩, by decide, ⟨_, rfl⟩, by decide⟩

/-- InertFlagsChangeNothing: the decimal flag and ADC; the unused flag and PLA. -/
theorem witness_inert_flags :
    (Flag.d ∈ [Flag.i, Flag.d, Flag.b, Flag.u] ∧ Mnemonic.adc ∉ flagWriters .d ∧ Mnemonic.adc ≠ .php) ∧
    Flag.u ∈ [Flag.i, Flag.d, Flag.b, Flag.u] ∧ Mnemonic.pla ∉ flagWriters .u ∧ Mnemonic.pla ≠ .php := by decide

/-- OtherInstructionsLeaveMemory: a compare and an accumulator shift. -/
theorem witness_no_store :
    (storesAtOperand (.cmpZeroPage 0x10) = false ∧ pushes (.cmpZeroPage 0x10) = false ∧
      ∃ t, exec (.cmpZeroPage 0x10) (start 0x0600 [0xC5, 0x10]) = .next t) ∧
    storesAtOperand .aslAccumulator = false ∧ pushes .aslAccumulator = false ∧
      ∃ t, exec .aslAccumulator (start 0x0600 [0x0A]) = .next t := ⟨⟨rfl, rfl, _, rfl⟩, rfl, rfl, _, rfl⟩

/-- StoresLeaveEveryOtherByte: a store, and a read-modify-write that faults. -/
theorem witness_store :
    (storesAtOperand (.staIndirectX 0xFF) = true ∧ (Instr.staIndirectX 0xFF).operand = some (.indirectX 0xFF) ∧
      ∃ t, exec (.staIndirectX 0xFF) (start 0x0600 [0x81, 0xFF]) = .next t) ∧
    storesAtOperand (.incAbsolute 0x0300) = true ∧ (Instr.incAbsolute 0x0300).operand = some (.absolute 0x0300) ∧
      ∃ t, exec (.incAbsolute 0x0300) (start 0xFFFE [0xEE]) = .next t := ⟨⟨rfl, rfl, _, rfl⟩, rfl, rfl, _, rfl⟩

/-- PushesLeaveEveryOtherByte: PHA, PHP and JSR with SP at the bottom of the stack page, and an address outside. -/
theorem witness_pushes :
    (pushes .pha = true ∧ pushes .php = true ∧ pushes (.jsr 0x9000) = true) ∧
    (∃ t, exec (.jsr 0x9000) { start 0x0600 [0x20, 0x00, 0x90] with sp := 0x00 } = .next t) ∧
    (0x0101#16 : Word) ≠ (0x0100#16 ||| zext16 0x00) ∧ (0x0101#16 : Word) ≠ (0x0100#16 ||| zext16 (0x00 - 1)) :=
  ⟨⟨rfl, rfl, rfl⟩, ⟨_, rfl⟩, by decide, by decide⟩

end Sys2Proof.Tests
end

section
/-! PROOFS. The stack: what a word push leaves, and that a word pull gives it back (10_state.md R26 to R31). -/

namespace Sys2Proof.Machine

section pushWord
variable (s : State) (w : Word)
@[simp] theorem State.pushWord_a : (s.pushWord w).a = s.a := rfl
@[simp] theorem State.pushWord_x : (s.pushWord w).x = s.x := rfl
@[simp] theorem State.pushWord_y : (s.pushWord w).y = s.y := rfl
@[simp] theorem State.pushWord_sp : (s.pushWord w).sp = s.sp - 1 - 1 := rfl
@[simp] theorem State.pushWord_p : (s.pushWord w).p = s.p := rfl
@[simp] theorem State.pushWord_pc : (s.pushWord w).pc = s.pc := rfl
@[simp] theorem State.pushWord_runState : (s.pushWord w).runState = s.runState := rfl
end pushWord

/-- The two bytes of a word push lie at different addresses, wherever SP stands (10_state.md R26). -/
theorem stackAddress_sub_one_ne (sp : Byte) : stackAddress (sp - 1) ≠ stackAddress sp := fun h => by
  have := stackAddress_injective h
  bv_omega

/-- What a word push leaves in memory: the high byte where SP points, the low byte one below (10_state.md R30). -/
theorem State.readByte_pushWord (s : State) (w a : Word) :
    (s.pushWord w).readByte a =
      if a = stackAddress s.sp then highByte w
      else if a = stackAddress (s.sp - 1) then lowByte w else s.readByte a := by
  rw [State.pushWord, State.readByte_push, State.readByte_push, State.push_sp]
  by_cases h : a = stackAddress (s.sp - 1)
  · rw [if_pos h, if_neg (h ▸ stackAddress_sub_one_ne s.sp), if_pos h]
  · rw [if_neg h, if_neg h]

/-- Settles O20: `readByte_pushWord` with the addresses of the stack page written out. -/
theorem pushWordLayout : Obligations.PushWordLayout := by
  intro s w
  refine ⟨fun a => ?_, ?_⟩
  · rw [State.readByte_pushWord, stackAddress_eq_or, stackAddress_eq_or]
  · have hsp : s.sp - 1 - 1 = s.sp - 2 := by bv_omega
    rw [← hsp]
    rfl

/-- Settles O21: the pull reads the two addresses the push wrote, in the opposite order. -/
theorem pullWordUndoesPushWord : Obligations.PullWordUndoesPushWord := by
  intro s w
  have hlow : s.sp - 1 - 1 + 1 = s.sp - 1 := BitVec.sub_add_cancel _ _
  have hhigh : s.sp - 1 - 1 + 1 + 1 = s.sp := by rw [hlow, BitVec.sub_add_cancel]
  rw [State.pullWord_eq, State.pushWord_sp, hhigh, hlow]
  refine ⟨?_, rfl⟩
  rw [State.readByte_pushWord, State.readByte_pushWord, if_pos rfl, if_neg (stackAddress_sub_one_ne s.sp), if_pos rfl,
    wordOfBytes_highByte_lowByte]

end Sys2Proof.Machine
end

section
/-! PROOFS. `reset()`, the launch and the host's mutators (10_state.md R12, R36, R37; 70_reset_and_hazards.md R245 to
R247). -/

namespace Sys2Proof.Machine

theorem hostReset_runState (spReset : Byte) (s : State) : (hostReset spReset s).runState = .running := rfl

/-- In Running nothing is claimed of the two terminal run states. -/
theorem endStates_of_running {s : State} (h : s.runState = .running) : HaltedPastHaltByte s ∧ FaultedAtTop s :=
  ⟨fun hh => by simp [h] at hh, fun _ he => by simp [h] at he⟩

/-- Settles O14: `reset()` leaves the image as it is and the engine Running. -/
theorem resetMeetsTheInvariants : Obligations.ResetMeetsTheInvariants := by
  have hempty : MemoryCanonical State.reset := ⟨List.Pairwise.nil, List.forall_mem_nil _⟩
  exact ⟨fun spReset s hs => ⟨hs, endStates_of_running (hostReset_runState spReset s)⟩, hempty,
    endStates_of_running (State.afterReset_runState config.spReset [])⟩

/-- Settles O15. -/
theorem resetZeroesAXY : Obligations.ResetZeroesAXY :=
  fun spReset s => ⟨State.afterReset_a spReset s.memory, State.afterReset_x spReset s.memory,
    State.afterReset_y spReset s.memory⟩

/-- Settles O16: field by field, what `State.afterReset` holds; over an empty image it is `State.reset` itself. -/
theorem resetCallLeavesTheResetState : Obligations.ResetCallLeavesTheResetState := by
  refine ⟨fun spReset s => rfl, fun s hs => ?_⟩
  rw [hostReset, hs]
  rfl

/-- Settles O57: the image the host hands over reads as given, the reset vector's two bytes with it. -/
theorem launchTakesAnyImage : Obligations.LaunchTakesAnyImage := by
  intro spReset memInit
  have hread : ∀ a : Word, (launch spReset memInit).readByte a = memInit a := Memory.read_ofImage memInit
  refine ⟨hread, Memory.wf_ofImage memInit, ?_, rfl, rfl, rfl, rfl, rfl, rfl, rfl⟩
  rw [← hread, ← hread]
  rfl

/-- The bits a register keeps of a number are those below its width. -/
theorem ofNat_mod_two_pow (n v : Nat) : BitVec.ofNat n (v % 2 ^ n) = BitVec.ofNat n v :=
  BitVec.eq_of_toNat_eq (by rw [BitVec.toNat_ofNat, BitVec.toNat_ofNat, Nat.mod_mod])

/-- Settles O17: truncating the value before or after it becomes a register's bits is the same. -/
theorem mutatorsOverwriteOneRegister : Obligations.MutatorsOverwriteOneRegister := by
  intro v s
  have h8 : BitVec.ofNat 8 (v % 256) = BitVec.ofNat 8 v := ofNat_mod_two_pow 8 v
  have h16 : BitVec.ofNat 16 (v % 65536) = BitVec.ofNat 16 v := ofNat_mod_two_pow 16 v
  rw [h8, h16]
  exact ⟨rfl, rfl, rfl, rfl, rfl, rfl, rfl, rfl, rfl, rfl, rfl, rfl⟩

end Sys2Proof.Machine
end

section
/-! PROOFS. The flag unit: `SetZN` and the overflow test (10_state.md R22, R23). -/

namespace Sys2Proof.Machine

/-- Settles O22: `flagOf_withZN`, one flag at a time. -/
theorem setZNLaw : Obligations.SetZNLaw := by
  intro p v f
  rw [flagOf_withZN]
  cases f with
  | z => rfl
  | n => rfl
  | c | i | d | b | u | v => rfl

/-- Bit 7 tested through its mask. -/
theorem and_signMask_ne_zero (x : Byte) : (x &&& 0x80) ≠ 0 ↔ x.getLsbD 7 = true := by
  rw [show (0x80 : Byte) = BitVec.twoPow 8 7 from rfl, BitVec.and_twoPow]
  cases x.getLsbD 7 <;> decide

/-- Settles O23: the test reads bit 7 of `(r ^^^ a) &&& (r ^^^ b)`, where the result differs from both operands. -/
theorem overflowTestLaw : Obligations.OverflowTestLaw := by
  intro a b r
  rw [ovf, bne_iff_ne, and_signMask_ne_zero, BitVec.getLsbD_and, BitVec.getLsbD_xor, BitVec.getLsbD_xor]
  cases a.getLsbD 7 <;> cases b.getLsbD 7 <;> cases r.getLsbD 7 <;> decide

end Sys2Proof.Machine
end

section
/-! PROOFS. Who writes A, X, Y and SP (10_state.md R11, R26): the frame around an instruction keeps every register, and
an effect keeps each register its mnemonic is not listed for. -/

namespace Sys2Proof.Machine

/-- A reading of the state that neither PC nor the run state enters comes through an instruction as it comes through
the instruction's effect: the advance and the OutOfRange fault do not touch it (40_engine_step.md R85, 60_exceptions.md
R222). -/
theorem exec_keeps {β : Type} (get : State → β) (hpc : ∀ s v, get (s.setPC v) = get s)
    (hrun : ∀ s r, get (s.setRunState r) = get s) {i : Instr} {s t : State} (h : exec i s = .next t)
    (he : get (effect i s.snapshot) = get s.snapshot) : get t = get s := by
  have hsnap : get s.snapshot = get s := hpc s _
  obtain ⟨-, -, rfl⟩ | ⟨-, rfl⟩ := exec_cases h
  · exact (hrun _ _).trans (hpc s 0xFFFF#16)
  · obtain ⟨-, hadv⟩ | ⟨-, hadv⟩ := State.advance_cases (effect i s.snapshot) (s.pc + 1) i.length
    · rw [hadv, hpc, he, hsnap]
    · rw [hadv, he, hsnap]

/-- A branch moves PC to its target or leaves the state alone (46_control_flow.md R175). -/
theorem operandEffect_branch {m : Mnemonic} {f : Flag} {want : Bool} (h : branchCondition m = some (f, want))
    (o : Operand) (s : State) :
    operandEffect o m s = if s.flag f = want then s.setPC (o.address s) else s := by
  cases m <;> simp only [branchCondition, reduceCtorEq, Option.some.injEq, Prod.mk.injEq] at h <;>
    (obtain ⟨rfl, rfl⟩ := h; rfl)

/-- A branch touches PC only. -/
theorem branch_keeps {β : Type} (get : State → β) (hpc : ∀ s v, get (s.setPC v) = get s) {m : Mnemonic} {f : Flag}
    {want : Bool} (h : branchCondition m = some (f, want)) (o : Operand) (s : State) :
    get (operandEffect o m s) = get s := by
  rw [operandEffect_branch h]
  split
  · exact hpc s _
  · rfl

section registers
variable {m : Mnemonic} (o : Operand) (s : State)

theorem plainEffect_a (h : m ∉ [.txa, .tya, .pla]) (hshift : m ∉ [.asl, .lsr, .rol, .ror]) :
    (plainEffect m s).a = s.a := by
  cases m with
  | txa | tya | pla => simp at h
  | asl | lsr | rol | ror => simp at hshift
  | _ => rfl

theorem plainEffect_x (h : m ∉ [.tax, .tsx, .inx, .dex]) : (plainEffect m s).x = s.x := by
  cases m with
  | tax | tsx | inx | dex => simp at h
  | _ => rfl

theorem plainEffect_y (h : m ∉ [.tay, .iny, .dey]) : (plainEffect m s).y = s.y := by
  cases m with
  | tay | iny | dey => simp at h
  | _ => rfl

theorem plainEffect_sp (h : m ∉ [.txs, .pha, .pla, .php, .plp, .rts]) : (plainEffect m s).sp = s.sp := by
  cases m with
  | txs | pha | pla | php | plp | rts => simp at h
  | _ => rfl

theorem operandEffect_a (h : m ∉ [.lda, .adc, .sbc, .and, .ora, .eor]) : (operandEffect o m s).a = s.a := by
  cases m with
  | lda | adc | sbc | and | ora | eor => simp at h
  | bcc | bcs | beq | bne | bmi | bpl | bvc | bvs => exact branch_keeps State.a (fun _ _ => rfl) rfl o s
  | _ => rfl

theorem operandEffect_x (h : m ≠ .ldx) : (operandEffect o m s).x = s.x := by
  cases m with
  | ldx => exact absurd rfl h
  | bcc | bcs | beq | bne | bmi | bpl | bvc | bvs => exact branch_keeps State.x (fun _ _ => rfl) rfl o s
  | _ => rfl

theorem operandEffect_y (h : m ≠ .ldy) : (operandEffect o m s).y = s.y := by
  cases m with
  | ldy => exact absurd rfl h
  | bcc | bcs | beq | bne | bmi | bpl | bvc | bvs => exact branch_keeps State.y (fun _ _ => rfl) rfl o s
  | _ => rfl

theorem operandEffect_sp (h : m ≠ .jsr) : (operandEffect o m s).sp = s.sp := by
  cases m with
  | jsr => exact absurd rfl h
  | bcc | bcs | beq | bne | bmi | bpl | bvc | bvs => exact branch_keeps State.sp (fun _ _ => rfl) rfl o s
  | _ => rfl

end registers

/-- A shift without an operand is the accumulator form (41_addressing_modes.md R102). -/
theorem mode_of_plain_shift {i : Instr} (h : i.operand = none) (hm : i.mnemonic ∈ [.asl, .lsr, .rol, .ror]) :
    i.mode = .accumulator := by
  cases i with
  | aslAccumulator | lsrAccumulator | rolAccumulator | rorAccumulator => rfl
  | _ => simp [Instr.operand, Instr.mnemonic] at h hm

section effectRegisters
variable {i : Instr} (s : State)

theorem effect_a (h : writesA i = false) : (effect i s).a = s.a := by
  obtain ⟨hm, hacc⟩ : i.mnemonic ∉ [.lda, .txa, .tya, .pla, .adc, .sbc, .and, .ora, .eor] ∧
      i.mode ≠ .accumulator := by simpa [writesA] using h
  cases ho : i.operand with
  | some o =>
    rw [effect_of_operand ho]
    exact operandEffect_a o s fun hw => hm ((by decide : [.lda, .adc, .sbc, .and, .ora, .eor] ⊆ _) hw)
  | none =>
    rw [effect_of_no_operand ho]
    exact plainEffect_a s (fun hw => hm ((by decide : [.txa, .tya, .pla] ⊆ _) hw))
      fun hs => hacc (mode_of_plain_shift ho hs)

theorem effect_x (h : writesX i = false) : (effect i s).x = s.x := by
  have hm : i.mnemonic ∉ [.ldx, .tax, .tsx, .inx, .dex] := of_decide_eq_false h
  cases ho : i.operand with
  | some o =>
    rw [effect_of_operand ho]
    exact operandEffect_x o s (List.ne_of_not_mem_cons hm)
  | none =>
    rw [effect_of_no_operand ho]
    exact plainEffect_x s (List.not_mem_of_not_mem_cons hm)

theorem effect_y (h : writesY i = false) : (effect i s).y = s.y := by
  have hm : i.mnemonic ∉ [.ldy, .tay, .iny, .dey] := of_decide_eq_false h
  cases ho : i.operand with
  | some o =>
    rw [effect_of_operand ho]
    exact operandEffect_y o s (List.ne_of_not_mem_cons hm)
  | none =>
    rw [effect_of_no_operand ho]
    exact plainEffect_y s (List.not_mem_of_not_mem_cons hm)

theorem effect_sp (h : writesSP i = false) : (effect i s).sp = s.sp := by
  have hm : i.mnemonic ∉ [.txs, .pha, .pla, .php, .plp, .jsr, .rts] := of_decide_eq_false h
  cases ho : i.operand with
  | some o =>
    rw [effect_of_operand ho]
    exact operandEffect_sp o s fun hw => hm (by simp [hw])
  | none =>
    rw [effect_of_no_operand ho]
    exact plainEffect_sp s fun hw => hm ((by decide : [.txs, .pha, .pla, .php, .plp, .rts] ⊆ _) hw)

end effectRegisters

/-- Settles O51: the advance and the fault keep every register, and each mnemonic that is not listed has an effect that
keeps it. -/
theorem onlyListedInstructionsWriteRegisters : Obligations.OnlyListedInstructionsWriteRegisters := by
  intro i s t h
  exact ⟨fun hw => exec_keeps State.a (fun _ _ => rfl) (fun _ _ => rfl) h (effect_a _ hw),
    fun hw => exec_keeps State.x (fun _ _ => rfl) (fun _ _ => rfl) h (effect_x _ hw),
    fun hw => exec_keeps State.y (fun _ _ => rfl) (fun _ _ => rfl) h (effect_y _ hw),
    fun hw => exec_keeps State.sp (fun _ _ => rfl) (fun _ _ => rfl) h (effect_sp _ hw)⟩

end Sys2Proof.Machine
end

section
/-! PROOFS. Who writes each flag, and the inert flags (10_state.md R18, R24, R25). A flag an
instruction neither writes nor reads may be written before the instruction or after it (`effect_setFlag`, from
`operandEffect_setFlag` and `plainEffect_setFlag`); both statements come from this. -/

namespace Sys2Proof.Machine

/-- A flag an instruction does not write is none of those it does. -/
theorem ne_of_not_writer {m : Mnemonic} {f g : Flag} (hf : m ∉ flagWriters f) (hg : m ∈ flagWriters g) : f ≠ g := by
  rintro rfl
  exact hf hg

section unreadFlag
variable {f : Flag} (p x y : Byte) (b : Bool)

theorem withFlag_self : withFlag p f (flagOf p f) = p := by
  cases f <;> revert p <;> decide

theorem flagOf_withFlag_of_ne {g : Flag} (h : f ≠ g) : flagOf (withFlag p f b) g = flagOf p g := by
  rw [flagOf_withFlag, if_neg h.symm]

theorem withZN_withFlag (hz : f ≠ .z) (hn : f ≠ .n) : withZN (withFlag p f b) x = withFlag (withZN p x) f b := by
  rw [withZN, withFlag_comm p _ _ hz, withFlag_comm _ _ _ hn, withZN]

theorem compareFlags_withFlag (hc : f ≠ .c) (hz : f ≠ .z) (hn : f ≠ .n) :
    compareFlags x y (withFlag p f b) = withFlag (compareFlags x y p) f b := by
  rw [compareFlags, withFlag_comm p _ _ hc, withZN_withFlag _ _ _ hz hn, compareFlags]

end unreadFlag

/-- A read-modify-write operation neither reads nor writes the flag: the flag may be written before it or after it. -/
def RmwIgnores (f : Flag) (op : Byte → Byte → RmwResult) : Prop :=
  ∀ old p b, op old (withFlag p f b) = ⟨(op old p).value, withFlag (op old p).p f b⟩

section rmwIgnores
variable {f : Flag}

theorem shiftResult_withFlag (hc : f ≠ .c) (hz : f ≠ .z) (hn : f ≠ .n) (value p : Byte) (out b : Bool) :
    shiftResult value out (withFlag p f b) = ⟨value, withFlag (shiftResult value out p).p f b⟩ := by
  rw [shiftResult, withFlag_comm p _ _ hc, withZN_withFlag _ _ _ hz hn, shiftResult]

theorem asl_ignores (hw : Mnemonic.asl ∉ flagWriters f) : RmwIgnores f asl := fun _ _ _ =>
  shiftResult_withFlag (ne_of_not_writer hw (by decide)) (ne_of_not_writer hw (by decide))
    (ne_of_not_writer hw (by decide)) _ _ _ _

theorem lsr_ignores (hw : Mnemonic.lsr ∉ flagWriters f) : RmwIgnores f lsr := fun _ _ _ =>
  shiftResult_withFlag (ne_of_not_writer hw (by decide)) (ne_of_not_writer hw (by decide))
    (ne_of_not_writer hw (by decide)) _ _ _ _

/-- ROL reads C, but it writes it too (44_shift_incdec.md R152). -/
theorem rol_ignores (hw : Mnemonic.rol ∉ flagWriters f) : RmwIgnores f rol := fun old p b => by
  have hc : f ≠ .c := ne_of_not_writer hw (by decide)
  rw [rol, flagOf_withFlag_of_ne _ _ hc]
  exact shiftResult_withFlag hc (ne_of_not_writer hw (by decide)) (ne_of_not_writer hw (by decide)) _ _ _ _

/-- ROR reads C, but it writes it too (44_shift_incdec.md R153). -/
theorem ror_ignores (hw : Mnemonic.ror ∉ flagWriters f) : RmwIgnores f ror := fun old p b => by
  have hc : f ≠ .c := ne_of_not_writer hw (by decide)
  rw [ror, flagOf_withFlag_of_ne _ _ hc]
  exact shiftResult_withFlag hc (ne_of_not_writer hw (by decide)) (ne_of_not_writer hw (by decide)) _ _ _ _

theorem inc_ignores (hw : Mnemonic.inc ∉ flagWriters f) : RmwIgnores f inc := fun old p b => by
  rw [inc, withZN_withFlag _ _ _ (ne_of_not_writer hw (by decide)) (ne_of_not_writer hw (by decide)), inc]

theorem dec_ignores (hw : Mnemonic.dec ∉ flagWriters f) : RmwIgnores f dec := fun old p b => by
  rw [dec, withZN_withFlag _ _ _ (ne_of_not_writer hw (by decide)) (ne_of_not_writer hw (by decide)), dec]

end rmwIgnores

section setFlag
variable {f : Flag} (s : State) (b : Bool)

/-- A state that is another but for P, and whose P is the other's with one flag written. -/
theorem State.eq_setFlag {t u : State} (hrest : u.setP t.p = t) (hp : u.p = withFlag t.p f b) : u = t.setFlag f b := by
  rw [← hrest, State.setFlag, State.setP_p]
  exact congrArg u.setP hp

theorem address_setFlag (o : Operand) : o.address (s.setFlag f b) = o.address s := by
  cases o <;> rfl

theorem byteAt_setFlag (o : Operand) : o.byteAt (s.setFlag f b) = o.byteAt s := by
  cases o <;> rfl

theorem State.flag_setFlag_of_ne {g : Flag} (h : f ≠ g) : (s.setFlag f b).flag g = s.flag g :=
  flagOf_withFlag_of_ne s.p b h

theorem State.setFlag_comm {g : Flag} (c : Bool) (h : f ≠ g) :
    (s.setFlag f b).setFlag g c = (s.setFlag g c).setFlag f b :=
  congrArg s.setP (withFlag_comm s.p b c h)

theorem storeRmw_setFlag {op : Byte → Byte → RmwResult} (h : RmwIgnores f op) (ea : Word) (old : Byte) :
    storeRmw ea (op old (s.setFlag f b).p) (s.setFlag f b) = (storeRmw ea (op old s.p) s).setFlag f b := by
  rw [State.setFlag_p, h]
  rfl

theorem accumulator_setFlag {op : Byte → Byte → RmwResult} (h : RmwIgnores f op) :
    ((s.setFlag f b).setA (op s.a (s.setFlag f b).p).value).setP (op s.a (s.setFlag f b).p).p =
      ((s.setA (op s.a s.p).value).setP (op s.a s.p).p).setFlag f b := by
  rw [State.setFlag_p, h]
  rfl

theorem addToA_setFlag (hc : f ≠ .c) (hv : f ≠ .v) (hz : f ≠ .z) (hn : f ≠ .n) (x : Byte) :
    addToA x (s.setFlag f b) = (addToA x s).setFlag f b := by
  rw [addToA, State.flag_setFlag_of_ne _ _ hc, State.setFlag_comm _ _ _ hc, State.setFlag_comm _ _ _ hv]
  exact State.eq_setFlag _ rfl (withZN_withFlag _ _ _ hz hn)

theorem bit_setFlag (hz : f ≠ .z) (hn : f ≠ .n) (hv : f ≠ .v) (x : Byte) :
    bit x (s.setFlag f b) = (bit x s).setFlag f b := by
  rw [bit, State.setFlag_comm _ _ _ hz, State.setFlag_comm _ _ _ hn, State.setFlag_comm _ _ _ hv]
  rfl

end setFlag

section effectSetFlag
variable {m : Mnemonic} {f : Flag} (s : State) (b : Bool)

theorem branch_setFlag {g : Flag} {want : Bool} (h : branchCondition m = some (g, want)) (hg : f ≠ g) (o : Operand) :
    operandEffect o m (s.setFlag f b) = (operandEffect o m s).setFlag f b := by
  rw [operandEffect_branch h, operandEffect_branch h, State.flag_setFlag_of_ne s b hg, address_setFlag]
  split <;> rfl

theorem operandEffect_setFlag (hw : m ∉ flagWriters f) (hbranch : ∀ g want, branchCondition m = some (g, want) → f ≠ g)
    (o : Operand) : operandEffect o m (s.setFlag f b) = (operandEffect o m s).setFlag f b := by
  have ne : ∀ {g}, m ∈ flagWriters g → f ≠ g := ne_of_not_writer hw
  cases m with
  | lda | ldx | ldy | and | ora | eor =>
    rw [operandEffect, byteAt_setFlag]
    exact State.eq_setFlag _ rfl (withZN_withFlag _ _ _ (ne (by decide)) (ne (by decide)))
  | adc | sbc =>
    rw [operandEffect, byteAt_setFlag]
    exact addToA_setFlag _ _ (ne (by decide)) (ne (by decide)) (ne (by decide)) (ne (by decide)) _
  | cmp | cpx | cpy =>
    rw [operandEffect, byteAt_setFlag]
    exact State.eq_setFlag _ rfl (compareFlags_withFlag _ _ _ _ (ne (by decide)) (ne (by decide)) (ne (by decide)))
  | bit =>
    rw [operandEffect, byteAt_setFlag]
    exact bit_setFlag _ _ (ne (by decide)) (ne (by decide)) (ne (by decide)) _
  | asl =>
    rw [operandEffect, address_setFlag]
    exact storeRmw_setFlag _ _ (asl_ignores hw) _ _
  | lsr =>
    rw [operandEffect, address_setFlag]
    exact storeRmw_setFlag _ _ (lsr_ignores hw) _ _
  | rol =>
    rw [operandEffect, address_setFlag]
    exact storeRmw_setFlag _ _ (rol_ignores hw) _ _
  | ror =>
    rw [operandEffect, address_setFlag]
    exact storeRmw_setFlag _ _ (ror_ignores hw) _ _
  | inc =>
    rw [operandEffect, address_setFlag]
    exact storeRmw_setFlag _ _ (inc_ignores hw) _ _
  | dec =>
    rw [operandEffect, address_setFlag]
    exact storeRmw_setFlag _ _ (dec_ignores hw) _ _
  | bcc | bcs | beq | bne | bmi | bpl | bvc | bvs =>
    exact branch_setFlag s b rfl (hbranch _ _ rfl) o
  | sta | stx | sty | jmp | jsr =>
    rw [operandEffect, address_setFlag]
    rfl
  | _ => rfl

theorem plainEffect_setFlag (hw : m ∉ flagWriters f) (hphp : m ≠ .php) :
    plainEffect m (s.setFlag f b) = (plainEffect m s).setFlag f b := by
  have ne : ∀ {g}, m ∈ flagWriters g → f ≠ g := ne_of_not_writer hw
  cases m with
  | tax | txa | tay | tya | tsx | inx | dex | iny | dey | pla =>
    exact State.eq_setFlag _ rfl (withZN_withFlag _ _ _ (ne (by decide)) (ne (by decide)))
  | asl => exact accumulator_setFlag _ _ (asl_ignores hw)
  | lsr => exact accumulator_setFlag _ _ (lsr_ignores hw)
  | rol => exact accumulator_setFlag _ _ (rol_ignores hw)
  | ror => exact accumulator_setFlag _ _ (ror_ignores hw)
  | sec | clc | sei | cli | sed | cld | clv =>
    exact State.setFlag_comm _ _ _ (ne (by decide))
  | php => exact absurd rfl hphp
  | plp => exact absurd rfl (ne (g := f) (by cases f <;> decide))
  | _ => rfl

theorem effect_setFlag {i : Instr} (hw : i.mnemonic ∉ flagWriters f) (hphp : i.mnemonic ≠ .php)
    (hbranch : ∀ g want, branchCondition i.mnemonic = some (g, want) → f ≠ g) :
    effect i (s.setFlag f b) = (effect i s).setFlag f b := by
  cases ho : i.operand with
  | some o =>
    rw [effect_of_operand ho, effect_of_operand ho, operandEffect_setFlag s b hw hbranch]
  | none =>
    rw [effect_of_no_operand ho, effect_of_no_operand ho, plainEffect_setFlag s b hw hphp]

end effectSetFlag

/-- Where writing a flag with the value it has may be done before or after, the flag comes through. -/
theorem flag_of_setFlag_comm {g : State → State} {f : Flag} {s : State}
    (h : g (s.setFlag f (s.flag f)) = (g s).setFlag f (s.flag f)) : (g s).flag f = s.flag f := by
  have hself : s.setFlag f (s.flag f) = s := congrArg s.setP (withFlag_self s.p)
  rw [hself] at h
  rw [h, State.flag, State.setFlag_p, flagOf_withFlag, if_pos rfl]

/-- An instruction that does not write a flag leaves it, although PHP and the branches read it (10_state.md R18). -/
theorem effect_flag {i : Instr} {f : Flag} (s : State) (hw : i.mnemonic ∉ flagWriters f) :
    (effect i s).flag f = s.flag f := by
  cases ho : i.operand with
  | some o =>
    rw [effect_of_operand ho]
    by_cases hb : ∃ g want, branchCondition i.mnemonic = some (g, want)
    · obtain ⟨g, want, hb⟩ := hb
      exact branch_keeps (State.flag · f) (fun _ _ => rfl) hb o s
    · exact flag_of_setFlag_comm (g := operandEffect o i.mnemonic)
        (operandEffect_setFlag s _ hw (fun g want h => absurd ⟨g, want, h⟩ hb) o)
  | none =>
    rw [effect_of_no_operand ho]
    by_cases hphp : i.mnemonic = .php
    · rw [hphp]
      rfl
    · exact flag_of_setFlag_comm (g := plainEffect i.mnemonic) (plainEffect_setFlag s _ hw hphp)

/-- Settles O52: the advance and the fault keep P, and the effect of a mnemonic that is not listed keeps the flag. -/
theorem onlyListedInstructionsWriteFlags : Obligations.OnlyListedInstructionsWriteFlags :=
  fun _ f _ _ h hw => exec_keeps (State.flag · f) (fun _ _ => rfl) (fun _ _ => rfl) h (effect_flag _ hw)

theorem State.advance_setFlag (s : State) (f : Flag) (b : Bool) (snap : Word) (length : Nat) :
    (s.setFlag f b).advance snap length = (s.advance snap length).setFlag f b := by
  unfold State.advance
  rw [State.setFlag_pc]
  split <;> rfl

/-- No branch takes its condition from an inert flag (46_control_flow.md R176 to R183). -/
theorem branch_not_on_inert {m : Mnemonic} {f g : Flag} {want : Bool} (hf : f ∈ [Flag.i, .d, .b, .u])
    (h : branchCondition m = some (g, want)) : f ≠ g := by
  have hg : g ∈ [Flag.c, .z, .v, .n] := by
    cases m <;> simp only [branchCondition, reduceCtorEq, Option.some.injEq, Prod.mk.injEq] at h <;> simp [← h.1]
  rintro rfl
  revert hf hg
  cases f <;> decide

/-- Settles O53: the flag is written before or after the effect, and before or after the frame around it, with the
same outcome. -/
theorem inertFlagsChangeNothing : Obligations.InertFlagsChangeNothing := by
  intro i f v s hf hw hphp
  have heffect : effect i (s.setFlag f v).snapshot = (effect i s.snapshot).setFlag f v :=
    effect_setFlag s.snapshot v hw hphp fun _ _ => branch_not_on_inert hf
  rw [exec_eq_effect, exec_eq_effect, heffect, State.setFlag_pc, State.advance_setFlag, mapNext]
  split <;> rfl

end Sys2Proof.Machine
end

section
/-! PROOFS. The bus, and who writes memory (20_memory.md R40 to R50): an instruction stores one byte at its operand's
address, or pushes, or leaves the image as it is; in each case the image stays canonical. -/

namespace Sys2Proof.Machine

/-- Settles O19: `readByte_writeByte`, and the range check of a word read. -/
theorem busReadsAndWrites : Obligations.BusReadsAndWrites := by
  refine ⟨State.readByte_writeByte, fun s a => ?_⟩
  rw [State.readWord, checkWordRange_eq]
  split <;> rfl

-- Which instructions store and which push.

/-- The mnemonics that write a byte at their operand's address, where they have one (R50). -/
def storeMnemonics : List Mnemonic := [.sta, .stx, .sty, .asl, .lsr, .rol, .ror, .inc, .dec]

theorem storesAtOperand_iff {i : Instr} :
    storesAtOperand i = true ↔ i.mnemonic ∈ storeMnemonics ∧ i.mode ≠ .accumulator := by
  simp [storesAtOperand, storeMnemonics]

theorem storesAtOperand_of_operand {i : Instr} {o : Operand} (ho : i.operand = some o)
    (hm : i.mnemonic ∈ storeMnemonics) : storesAtOperand i = true := by
  refine storesAtOperand_iff.2 ⟨hm, ?_⟩
  rw [mode_of_operand ho]
  cases o <;> simp [Operand.mode]

/-- A storing instruction has an operand: STA to DEC never stand without one, and a shift without one is the
accumulator form (41_addressing_modes.md R102). -/
theorem operand_of_storesAtOperand {i : Instr} (h : storesAtOperand i = true) : ∃ o, i.operand = some o := by
  obtain ⟨hm, hacc⟩ := storesAtOperand_iff.1 h
  cases ho : i.operand with
  | some o => exact ⟨o, rfl⟩
  | none =>
    have hplain : ∀ m ∈ storeMnemonics, m ∉ operandMnemonics → m ∈ [.asl, .lsr, .rol, .ror] := by decide
    exact absurd (mode_of_plain_shift ho (hplain _ hm (mnemonic_of_no_operand ho))) hacc

theorem pushes_cases {i : Instr} (h : pushes i = true) : i = .pha ∨ i = .php ∨ ∃ w, i = .jsr w := by
  cases i with
  | pha => exact .inl rfl
  | php => exact .inr (.inl rfl)
  | jsr w => exact .inr (.inr ⟨w, rfl⟩)
  | _ => simp [pushes, Instr.mnemonic] at h

/-- No storing instruction is listed as a writer of A, X, Y or SP (10_state.md R11, R26). -/
theorem writesNoRegister_of_storesAtOperand {i : Instr} (h : storesAtOperand i = true) :
    writesA i = false ∧ writesX i = false ∧ writesY i = false ∧ writesSP i = false := by
  obtain ⟨hm, hacc⟩ := storesAtOperand_iff.1 h
  have hlists : ∀ m ∈ storeMnemonics, m ∉ [.lda, .txa, .tya, .pla, .adc, .sbc, .and, .ora, .eor] ∧
      m ∉ [.ldx, .tax, .tsx, .inx, .dex] ∧ m ∉ [.ldy, .tay, .iny, .dey] ∧
      m ∉ [.txs, .pha, .pla, .php, .plp, .jsr, .rts] := by decide
  obtain ⟨ha, hx, hy, hsp⟩ := hlists _ hm
  exact ⟨Bool.or_eq_false_iff.2 ⟨decide_eq_false ha, decide_eq_false hacc⟩, decide_eq_false hx, decide_eq_false hy,
    decide_eq_false hsp⟩

-- What an effect leaves in memory.

section effectMemory
variable {m : Mnemonic} {i : Instr} (o : Operand) (s : State)

theorem operandEffect_memory (hstore : m ∉ storeMnemonics) (hjsr : m ≠ .jsr) :
    (operandEffect o m s).memory = s.memory := by
  cases m with
  | sta | stx | sty | asl | lsr | rol | ror | inc | dec => exact absurd (by decide) hstore
  | jsr => exact absurd rfl hjsr
  | bcc | bcs | beq | bne | bmi | bpl | bvc | bvs => exact branch_keeps State.memory (fun _ _ => rfl) rfl o s
  | _ => rfl

theorem operandEffect_memory_of_store (h : m ∈ storeMnemonics) :
    ∃ v, (operandEffect o m s).memory = (s.writeByte (o.address s) v).memory := by
  cases m with
  | sta | stx | sty | asl | lsr | rol | ror | inc | dec => exact ⟨_, rfl⟩
  | _ => simp [storeMnemonics] at h

theorem plainEffect_memory (h : m ∉ [.pha, .php]) : (plainEffect m s).memory = s.memory := by
  cases m with
  | pha | php => simp at h
  | _ => rfl

/-- An instruction that neither stores nor pushes has an effect that keeps the image (R50). -/
theorem effect_memory (hstore : storesAtOperand i = false) (hpush : pushes i = false) :
    (effect i s).memory = s.memory := by
  have hm : i.mnemonic ∉ [.pha, .php, .jsr] := of_decide_eq_false hpush
  cases ho : i.operand with
  | some o =>
    rw [effect_of_operand ho]
    exact operandEffect_memory o s (fun hw => by simp [storesAtOperand_of_operand ho hw] at hstore)
      fun hj => hm (by simp [hj])
  | none =>
    rw [effect_of_no_operand ho]
    exact plainEffect_memory s fun hw => hm ((by decide : [.pha, .php] ⊆ _) hw)

/-- A storing instruction has the effect of one byte write on the image (R50). -/
theorem effect_memory_of_store {o : Operand} (ho : i.operand = some o) (h : storesAtOperand i = true) :
    ∃ v, (effect i s).memory = (s.writeByte (o.address s) v).memory := by
  rw [effect_of_operand ho]
  exact operandEffect_memory_of_store o s (storesAtOperand_iff.1 h).1

end effectMemory

-- The canonical form.

theorem State.pushWord_wf {s : State} {w : Word} (h : s.memory.wf) : (s.pushWord w).memory.wf :=
  State.push_wf (State.push_wf h)

/-- Every effect keeps the canonical form: it writes one byte, pushes, or leaves the image. -/
theorem effect_wf (i : Instr) {s : State} (h : s.memory.wf) : (effect i s).memory.wf := by
  cases hstore : storesAtOperand i with
  | true =>
    obtain ⟨o, ho⟩ := operand_of_storesAtOperand hstore
    obtain ⟨v, hv⟩ := effect_memory_of_store s ho hstore
    rw [hv]
    exact State.writeByte_wf h
  | false =>
    cases hpush : pushes i with
    | true =>
      obtain rfl | rfl | ⟨w, rfl⟩ := pushes_cases hpush
      · exact State.push_wf h
      · exact State.push_wf h
      · exact State.pushWord_wf h
    | false =>
      rw [effect_memory s hstore hpush]
      exact h

/-- Settles O12: the halting fetch keeps the image, and an instruction keeps its canonical form by `effect_wf`. -/
theorem stepKeepsMemoryCanonical : Obligations.StepKeepsMemoryCanonical := by
  intro s t hs h
  obtain ⟨-, ⟨-, rfl⟩ | ⟨i, -, hi⟩⟩ := step_cases h
  · exact hs
  · have heffect : MemoryCanonical (effect i s.snapshot) := effect_wf i hs
    have hkeeps : MemoryCanonical t = MemoryCanonical s :=
      exec_keeps MemoryCanonical (fun _ _ => rfl) (fun _ _ => rfl) hi (propext (iff_of_true heffect hs))
    exact hkeeps.mpr hs

-- The frames.

/-- A byte an instruction's effect keeps comes through the instruction. -/
theorem exec_readByte {i : Instr} {s t : State} {a : Word} (h : exec i s = .next t)
    (he : (effect i s.snapshot).readByte a = s.readByte a) : t.readByte a = s.readByte a :=
  exec_keeps (State.readByte · a) (fun _ _ => rfl) (fun _ _ => rfl) h he

/-- Settles O54. -/
theorem otherInstructionsLeaveMemory : Obligations.OtherInstructionsLeaveMemory :=
  fun _ s _ hstore hpush h a => exec_readByte h (State.readByte_congr (effect_memory s.snapshot hstore hpush) a)

/-- Settles O55: the effect is one byte write, and a storing instruction is none of the register writers of O51. -/
theorem storesLeaveEveryOtherByte : Obligations.StoresLeaveEveryOtherByte := by
  intro i o s t hstore ho h
  obtain ⟨hA, hX, hY, hSP⟩ := onlyListedInstructionsWriteRegisters i s t h
  obtain ⟨ha, hx, hy, hsp⟩ := writesNoRegister_of_storesAtOperand hstore
  refine ⟨fun a hne => exec_readByte h ?_, hA ha, hX hx, hY hy, hSP hsp⟩
  obtain ⟨v, hv⟩ := effect_memory_of_store s.snapshot ho hstore
  rw [State.readByte_congr hv, State.readByte_writeByte, if_neg hne]
  rfl

/-- Settles O56: PHA and PHP push one byte where SP points, JSR the two bytes of a word push. -/
theorem pushesLeaveEveryOtherByte : Obligations.PushesLeaveEveryOtherByte := by
  intro i s t hpush h a htop hnext
  rw [← stackAddress_eq_or] at htop hnext
  have hpushed : ∀ v, (s.snapshot.push v).readByte a = s.readByte a := fun v =>
    (State.readByte_push _ _ _).trans (if_neg htop)
  refine exec_readByte h ?_
  obtain rfl | rfl | ⟨w, rfl⟩ := pushes_cases hpush
  · exact hpushed _
  · exact hpushed _
  · exact (State.readByte_pushWord s.snapshot _ a).trans ((if_neg htop).trans (if_neg (hnext rfl)))

end Sys2Proof.Machine
end

section
/-! PROOFS. The decoder and the encoder undo each other, and what has no encoding (30_encoding.md R60 to R71). Each row
of the opcode matrix is read once: `matrixRow_encodings` from an entry to the bytes it stands for, `exists_shape` from
an instruction to its entry. -/

namespace Sys2Proof

/-- The operand bytes of what an entry builds from two bytes, as the encoder lays them out (R62, R63, R65). -/
def Shape.operandField : Shape → Byte → Byte → List Byte
  | .f1 _, _, _ => []
  | .f2 _, b1, _ => [b1]
  | .f3 _, b1, b2 => [lowByte (wordOfBytes b2 b1), highByte (wordOfBytes b2 b1)]

-- From the table to the instructions.

theorem findShape_mem {table : List (Byte × Shape)} {c : Byte} {shape : Shape} (h : findShape table c = some shape) :
    (c, shape) ∈ table := by
  induction table with
  | nil => cases h
  | cons entry rest ih =>
    rw [findShape] at h
    split at h
    · next hc =>
      obtain rfl := hc
      obtain rfl := Option.some.inj h
      exact List.mem_cons_self
    · exact List.mem_cons_of_mem _ (ih h)

/-- In every row, what an entry builds is encoded as the entry's opcode byte and then the operand bytes. -/
theorem matrixRow_encodings (high : Nat) (b1 b2 : Byte) :
    (matrixRow high).map (fun entry => encode (entry.2.complete b1 b2)) =
      (matrixRow high).map fun entry => entry.1 :: entry.2.operandField b1 b2 := by
  unfold matrixRow
  split <;> rfl

theorem encode_complete {c : Byte} {shape : Shape} (h : opcodeShape c = some shape) (b1 b2 : Byte) :
    encode (shape.complete b1 b2) = c :: shape.operandField b1 b2 :=
  List.map_inj_left.1 (matrixRow_encodings _ b1 b2) _ (findShape_mem h)

-- From the instructions to the table.

/-- Every instruction is built by the table entry of its opcode byte: first the instructions of format F1, then those of
F3, and the rest are of F2 (R61 to R63). -/
theorem exists_shape (i : Instr) : ∃ shape b1 b2, opcodeShape i.opcode = some shape ∧ shape.complete b1 b2 = i := by
  cases i with
  | tax | txa | tay | tya | tsx | txs | aslAccumulator | lsrAccumulator | rolAccumulator | rorAccumulator | inx | dex
  | iny | dey | rts | pha | pla | php | plp | sec | clc | sei | cli | sed | cld | clv | nop | brk =>
    exact ⟨.f1 _, 0, 0, rfl, rfl⟩
  | ldaAbsolute w | ldaAbsoluteX w | ldaAbsoluteY w | ldxAbsolute w | ldxAbsoluteY w | ldyAbsolute w | ldyAbsoluteX w
  | staAbsolute w | staAbsoluteX w | staAbsoluteY w | stxAbsolute w | styAbsolute w
  | adcAbsolute w | adcAbsoluteX w | adcAbsoluteY w | sbcAbsolute w | sbcAbsoluteX w | sbcAbsoluteY w
  | andAbsolute w | andAbsoluteX w | andAbsoluteY w | oraAbsolute w | oraAbsoluteX w | oraAbsoluteY w
  | eorAbsolute w | eorAbsoluteX w | eorAbsoluteY w | aslAbsolute w | aslAbsoluteX w | lsrAbsolute w | lsrAbsoluteX w
  | rolAbsolute w | rolAbsoluteX w | rorAbsolute w | rorAbsoluteX w | incAbsolute w | incAbsoluteX w
  | decAbsolute w | decAbsoluteX w | cmpAbsolute w | cmpAbsoluteX w | cmpAbsoluteY w | cpxAbsolute w | cpyAbsolute w
  | bitAbsolute w | jmpAbsolute w | jmpIndirect w | jsr w =>
    exact ⟨.f3 _, lowByte w, highByte w, by rw [Instr.opcode]; rfl, congrArg _ (wordOfBytes_highByte_lowByte w)⟩
  | _ =>
    rename_i n
    exact ⟨.f2 _, n, 0, by rw [Instr.opcode]; rfl, rfl⟩

-- What the decoder of a list answers.

/-- An opcode byte with its operand bytes decodes to what its entry builds from them, whatever follows. -/
theorem decode_operandField {c : Byte} {shape : Shape} (h : opcodeShape c = some shape) (b1 b2 : Byte)
    (rest : List Byte) :
    decode (c :: shape.operandField b1 b2 ++ rest) = .ok (shape.complete b1 b2, rest) := by
  cases shape with
  | f1 | f2 | f3 => simp [decode, h, Shape.operandBytes, Shape.complete, Shape.operandField]

/-- What decodes begins with an opcode byte of the table and its operand bytes. -/
theorem decode_ok_cases {bytes rest : List Byte} {i : Instr} (h : decode bytes = .ok (i, rest)) :
    ∃ c shape b1 b2, opcodeShape c = some shape ∧ i = shape.complete b1 b2 ∧
      bytes = c :: shape.operandField b1 b2 ++ rest := by
  cases bytes with
  | nil => simp [decode] at h
  | cons c tail =>
    rw [decode] at h
    split at h
    · cases h
    · next shape hs =>
      split at h
      · cases h
      · next hlen =>
        obtain ⟨rfl, rfl⟩ := Prod.mk.inj (Except.ok.inj h)
        refine ⟨c, shape, _, _, hs, rfl, ?_⟩
        match shape, tail with
        | .f1 _, _ => rfl
        | .f2 _, [] | .f3 _, [] | .f3 _, [_] => simp [Shape.operandBytes] at hlen
        | .f2 _, _ :: _ => rfl
        | .f3 _, _ :: _ :: _ => simp [Shape.operandField, Shape.operandBytes]

/-- Settles O2: an instruction is built by a table entry, and an entry's bytes decode to what it builds. -/
theorem decodeOfEncodeIsTheInstruction : Obligations.DecodeOfEncodeIsTheInstruction := by
  intro i rest
  obtain ⟨shape, b1, b2, hs, hi⟩ := exists_shape i
  have henc : encode i = i.opcode :: shape.operandField b1 b2 := hi ▸ encode_complete hs b1 b2
  rw [henc, decode_operandField hs, hi]

/-- Settles O3: what decodes is an entry's bytes, and they encode what the entry builds. -/
theorem encodeOfDecodeIsTheBytes : Obligations.EncodeOfDecodeIsTheBytes := by
  intro bytes rest i h
  obtain ⟨c, shape, b1, b2, hs, rfl, rfl⟩ := decode_ok_cases h
  rw [encode_complete hs]

/-- Settles O7: a byte with no table entry halts, and every instruction has a next state. -/
theorem runningEngineAlwaysSteps : Obligations.RunningEngineAlwaysSteps := by
  intro s hs
  cases hf : s.fetch with
  | none => exact ⟨_, Machine.step_of_no_fetch hs hf⟩
  | some i => exact ⟨_, (Machine.step_of_fetch hs hf).trans (Machine.exec_eq_effect i s)⟩

/-- Settles O1. -/
theorem decodesWordsOfEveryFamily : Obligations.DecodesWordsOfEveryFamily :=
  ⟨rfl, rfl, rfl, rfl, rfl, rfl, rfl, rfl, rfl, rfl, rfl⟩

-- The bytes with and without an entry.

/-- Of the 256 bytes, in order, those with an entry are the table's opcode bytes (R66, R67). -/
theorem opcodeTable_eq_filter : (opcodeTable.map Prod.fst).map BitVec.toNat =
    (List.range 256).filter fun n => (opcodeShape (BitVec.ofNat 8 n)).isSome := by decide

/-- Of the 256 bytes, in order, those without an entry are the listed ones (R69). -/
theorem unassignedOpcodes_eq_filter : Machine.unassignedOpcodes.map BitVec.toNat =
    (List.range 256).filter fun n => (opcodeShape (BitVec.ofNat 8 n)).isNone := by decide

theorem opcodeShape_eq_none {c : Byte} : opcodeShape c = none ↔ c ∈ Machine.unassignedOpcodes := by
  rw [← List.mem_map_of_injective BitVec.toNat_injective, unassignedOpcodes_eq_filter, List.mem_filter]
  simp [c.isLt]

theorem opcodeTable_nodup : (opcodeTable.map Prod.fst).Nodup := by
  refine List.Nodup.of_map BitVec.toNat ?_
  rw [opcodeTable_eq_filter]
  exact List.nodup_range.filter _

/-- Settles O4. -/
theorem unassignedBytesAreThe106 : Obligations.UnassignedBytesAreThe106 :=
  ⟨fun _ => opcodeShape_eq_none, rfl, rfl, opcodeTable_nodup⟩

end Sys2Proof
end

section
/-! PROOFS. The engine step and the run (40_engine_step.md R80 to R90): what a step in each run state is, how far a
sequential instruction moves PC, and that `run` is the step iterated until the engine ends or its fuel does. -/

namespace Sys2Proof.Machine

-- The step in each run state.

/-- In Halted there is no step (R80). -/
theorem step_of_halted {s : State} (h : s.runState = .halted) : step s = .fault .stuckHalted := by
  simp [step, h]

/-- In Faulted there is no step (60_exceptions.md R223). -/
theorem step_of_faulted {s : State} {e : OutOfRange} (h : s.runState = .faulted e) :
    step s = .fault (.stuckFaulted e) := by
  simp [step, h]

/-- Settles O8. -/
theorem noStepAfterTheEnd : Obligations.NoStepAfterTheEnd :=
  fun _ => ⟨step_of_halted, fun _ => step_of_faulted⟩

/-- Settles O5: the fetch reads the same three bytes through the window decoder. -/
theorem stepRunsTheDecodedInstruction : Obligations.StepRunsTheDecodedInstruction :=
  fun _ _ _ hs h => step_of_fetch hs (decodeWindow_of_decode h)

/-- The halt code is BRK's opcode byte, whatever follows it (47_stack_flags_system.md R207). -/
theorem fetch_of_haltCode {s : State} (h : s.readByte s.pc = 0x00#8) : s.fetch = some .brk := by
  rw [State.fetch, h]
  rfl

/-- In Running the halt code and a byte with no table entry have one outcome, the halting fetch (R83). -/
theorem step_of_halting_byte {s : State} (hs : s.runState = .running)
    (h : s.readByte s.pc = 0x00#8 ∨ opcodeShape (s.readByte s.pc) = none) : step s = haltStep s := by
  obtain hcode | habsent := h
  · exact step_of_fetch hs (fetch_of_haltCode hcode)
  · exact step_of_no_fetch hs (fetch_eq_none.2 habsent)

/-- Settles O6: the halting fetch, and no step in the state it leaves. -/
theorem haltCodeOrAbsentHalts : Obligations.HaltCodeOrAbsentHalts := by
  intro s hs h
  refine ⟨step_of_halting_byte hs h, fun u hu => ?_⟩
  rw [step_of_halted rfl] at hu
  cases hu

-- PC and the run state across an instruction's effect.

section sequential
variable {m : Mnemonic} (o : Operand) (s : State)

theorem plainEffect_pc (h : m ≠ .rts) : (plainEffect m s).pc = s.pc := by
  cases m with
  | rts => exact absurd rfl h
  | _ => rfl

theorem plainEffect_runState (h : m ∉ operandMnemonics) (hbrk : m ≠ .brk) :
    (plainEffect m s).runState = s.runState := by
  cases m with
  | brk => exact absurd rfl hbrk
  | lda | ldx | ldy | sta | stx | sty | adc | sbc | and | ora | eor | inc | dec | cmp | cpx | cpy | bit
  | bcc | bcs | beq | bne | bmi | bpl | bvc | bvs | jmp | jsr => exact absurd (by decide) h
  | _ => rfl

theorem operandEffect_pc (h : m ∉ [.bcc, .bcs, .beq, .bne, .bmi, .bpl, .bvc, .bvs, .jmp, .jsr]) :
    (operandEffect o m s).pc = s.pc := by
  cases m with
  | bcc | bcs | beq | bne | bmi | bpl | bvc | bvs | jmp | jsr => exact absurd (by decide) h
  | _ => rfl

theorem operandEffect_runState (h : m ∉ plainMnemonics) : (operandEffect o m s).runState = s.runState := by
  cases m with
  | tax | txa | tay | tya | tsx | txs | inx | dex | iny | dey | rts | pha | pla | php | plp
  | sec | clc | sei | cli | sed | cld | clv | nop | brk => exact absurd (by decide) h
  | bcc | bcs | beq | bne | bmi | bpl | bvc | bvs => exact branch_keeps State.runState (fun _ _ => rfl) rfl o s
  | _ => rfl

variable {i : Instr}

/-- Only a control transfer has an effect that moves PC (10_state.md R14). -/
theorem effect_pc (h : redirects i = false) : (effect i s).pc = s.pc := by
  have hm : i.mnemonic ∉ [.bcc, .bcs, .beq, .bne, .bmi, .bpl, .bvc, .bvs, .jmp, .jsr, .rts, .brk] :=
    of_decide_eq_false h
  cases ho : i.operand with
  | some o =>
    rw [effect_of_operand ho]
    exact operandEffect_pc o s fun hw =>
      hm ((by decide : [.bcc, .bcs, .beq, .bne, .bmi, .bpl, .bvc, .bvs, .jmp, .jsr] ⊆ _) hw)
  | none =>
    rw [effect_of_no_operand ho]
    exact plainEffect_pc s fun hw => hm (by simp [hw])

/-- Only BRK has an effect that changes the run state (47_stack_flags_system.md R207). -/
theorem effect_runState (h : i.mnemonic ≠ .brk) : (effect i s).runState = s.runState := by
  cases ho : i.operand with
  | some o =>
    rw [effect_of_operand ho]
    exact operandEffect_runState o s (mnemonic_of_operand ho)
  | none =>
    rw [effect_of_no_operand ho]
    exact plainEffect_runState s (mnemonic_of_no_operand ho) h

end sequential

/-- Settles O11: the effect leaves PC at the snapshot, so the advance ends at the next instruction. -/
theorem sequentialInstructionsAdvanceByLength : Obligations.SequentialInstructionsAdvanceByLength := by
  intro i s hr h
  have hbrk : i.mnemonic ≠ .brk := fun hw => by simp [redirects, hw] at h
  exact ⟨_, exec_in_range hr (effect_pc s.snapshot h), rfl, effect_runState s.snapshot hbrk⟩

-- The run.

/-- `k + 1` steps that end in a next state are one step and then `k` steps. -/
theorem steps_succ_eq_next {k : Nat} {s t : State} :
    steps (k + 1) s = .next t ↔ ∃ u, step s = .next u ∧ steps k u = .next t := by
  rw [steps]
  cases step s with
  | next _ | fault _ | refused _ => simp

/-- The way of ending that a state's run state names (R90); a run left in Running is unfinished. -/
def endOf (t : State) : RunEnd :=
  match t.runState with
  | .halted => .halted t
  | .faulted e => .faulted e t
  | .running => .unfinished t

/-- The state a run's ending carries. -/
def RunEnd.state : RunEnd → State
  | .halted t | .faulted _ t | .unfinished t => t

/-- The run state an ending stands for. -/
def RunEnd.runState : RunEnd → RunState
  | .halted _ => .halted
  | .faulted e _ => .faulted e
  | .unfinished _ => .running

/-- The ending of a state carries that state, and stands for its run state. -/
theorem endOf_eq_iff {t : State} {r : RunEnd} : endOf t = r ↔ r.state = t ∧ t.runState = r.runState := by
  unfold endOf
  cases t.runState with
  | halted | faulted _ | running => cases r <;> simp [RunEnd.state, RunEnd.runState, eq_comm, and_comm]

/-- The iterated step ends in `t` within the fuel: some number of steps reaches it, all of the fuel where the engine is
still Running there (R87, R90). -/
def EndsIn (fuel : Nat) (s t : State) : Prop :=
  ∃ n, n ≤ fuel ∧ steps n s = .next t ∧ (t.runState = .running → n = fuel)

section run
variable {fuel : Nat} {s t : State}

/-- A run in Halted or Faulted, or without fuel, ends where it is (R89). -/
theorem run_of_ended (h : s.runState = .running → fuel = 0) : run fuel s = endOf s := by
  unfold run endOf
  cases hs : s.runState with
  | halted | faulted _ => rfl
  | running =>
    obtain rfl := h hs
    rfl

/-- A run with fuel takes the step there is and goes on from there (R87). -/
theorem run_of_step (h : step s = .next t) : run (fuel + 1) s = run fuel t := by
  rw [run, (step_cases h).1]
  simp [h]

/-- From every state the iterated step ends somewhere, since the engine never gets stuck in Running (R71). -/
theorem exists_endsIn (fuel : Nat) (s : State) : ∃ t, EndsIn fuel s t := by
  induction fuel generalizing s with
  | zero => exact ⟨s, 0, Nat.le_refl 0, rfl, fun _ => rfl⟩
  | succ k ih =>
    by_cases hs : s.runState = .running
    · obtain ⟨u, hu⟩ := runningEngineAlwaysSteps s hs
      obtain ⟨t, n, hn, ht, hrun⟩ := ih u
      exact ⟨t, n + 1, Nat.succ_le_succ hn, steps_succ_eq_next.2 ⟨u, hu, ht⟩, fun h => congrArg (· + 1) (hrun h)⟩
    · exact ⟨s, 0, Nat.zero_le _, rfl, fun h => absurd h hs⟩

/-- The run ends where the iterated step does. -/
theorem run_of_endsIn (h : EndsIn fuel s t) : run fuel s = endOf t := by
  obtain ⟨n, hn, hsteps, hrun⟩ := h
  induction n generalizing fuel s with
  | zero =>
    obtain rfl : s = t := by simpa [steps] using hsteps
    exact run_of_ended fun h => (hrun h).symm
  | succ n ih =>
    obtain ⟨u, hu, ht⟩ := steps_succ_eq_next.1 hsteps
    cases fuel with
    | zero => exact absurd hn (Nat.not_succ_le_zero n)
    | succ k =>
      rw [run_of_step hu]
      exact ih (Nat.le_of_succ_le_succ hn) ht fun h => Nat.succ.inj (hrun h)

/-- What a run answers, in both directions: the ending of a state the iterated step ends in. -/
theorem run_eq_iff {r : RunEnd} : run fuel s = r ↔ r.state.runState = r.runState ∧ EndsIn fuel s r.state := by
  constructor
  · rintro rfl
    obtain ⟨t, ht⟩ := exists_endsIn fuel s
    obtain ⟨hstate, hrun⟩ := endOf_eq_iff.1 (run_of_endsIn ht).symm
    rw [hstate]
    exact ⟨hrun, ht⟩
  · rintro ⟨hrun, ht⟩
    exact (run_of_endsIn ht).trans (endOf_eq_iff.2 ⟨rfl, hrun⟩)

/-- Where the engine has ended, any number of steps within the fuel may have been taken (R90). -/
theorem run_eq_iff_of_ended {r : RunEnd} (h : r.runState ≠ .running) :
    run fuel s = r ↔ r.state.runState = r.runState ∧ ∃ n, n ≤ fuel ∧ steps n s = .next r.state := by
  refine run_eq_iff.trans (and_congr_right fun hr => ?_)
  simp [EndsIn, hr, h]

/-- Where the engine is still Running, all of the fuel is stepped (R87). -/
theorem run_eq_unfinished : run fuel s = .unfinished t ↔ t.runState = .running ∧ steps fuel s = .next t := by
  refine run_eq_iff.trans (and_congr_right fun hr => ⟨?_, fun hsteps => ?_⟩)
  · rintro ⟨n, -, hsteps, hrun⟩
    exact hrun hr ▸ hsteps
  · exact ⟨fuel, Nat.le_refl fuel, hsteps, fun _ => rfl⟩

end run

/-- Settles O18: `run_eq_iff` for the three ends; in Halted and Faulted the run ends after zero steps. -/
theorem runIsIteratedStep : Obligations.RunIsIteratedStep := by
  intro fuel s t
  refine ⟨run_eq_iff_of_ended RunState.noConfusion, fun e => run_eq_iff_of_ended RunState.noConfusion,
    run_eq_unfinished, fun h => ?_, fun e h => ?_⟩
  · exact (run_eq_iff_of_ended RunState.noConfusion).2 ⟨h, 0, Nat.zero_le fuel, rfl⟩
  · exact (run_eq_iff_of_ended RunState.noConfusion).2 ⟨h, 0, Nat.zero_le fuel, rfl⟩

end Sys2Proof.Machine
end

section
/-! PROOFS. The addressing modes (41_addressing_modes.md R100 to R114): a byte operand resolves in every state, an
operand word faults at snapshot 0xFFFF alone, and both kinds of pointer wrap inside their page. -/

namespace Sys2Proof.Machine

section resolve
variable {o : Operand} (s : State)

/-- A mode with an operand byte resolves in every state (R100). -/
theorem resolve_of_operandByte (h : o.readsWord = false) : o.resolve s = .ok (o.address s) := by
  rw [Operand.resolve_eq, if_neg fun hw => by simp [h] at hw]

/-- A mode with an operand word faults at snapshot 0xFFFF, and nowhere else (R107, R109). -/
theorem resolve_of_operandWord (h : o.readsWord = true) :
    o.resolve s = if s.pc = 0xFFFF#16 then .error ⟨0x10000⟩ else .ok (o.address s) := by
  simp only [Operand.resolve_eq, h, true_and]

end resolve

/-- The parameter `ZP_PTR_WRAP` holds in this machine, so a zero-page pointer stays in page zero (R110, R111, D13). -/
theorem State.zeroPagePointer_eq (s : State) (zp : Byte) :
    s.zeroPagePointer zp = wordOfBytes (s.readByte (zext16 (zp + 1))) (s.readByte (zext16 zp)) := rfl

/-- Settles O24: both modes carry an operand byte. -/
theorem zeroPageAddresses : Obligations.ZeroPageAddresses :=
  fun _ s => ⟨resolve_of_operandByte s rfl, rfl, resolve_of_operandByte s rfl, rfl⟩

/-- Settles O25: each mode by the kind of its operand, the page-zero pointers by `zeroPagePointer_eq`, the indirect one
with its page wrap drawn out of the answer. -/
theorem operandAddresses : Obligations.OperandAddresses := by
  intro n w s
  refine ⟨resolve_of_operandByte s rfl, ?immediateByte, resolve_of_operandByte s rfl, resolve_of_operandWord s rfl,
    resolve_of_operandWord s rfl, resolve_of_operandWord s rfl, ?indirect, ?indirectX, ?indirectY,
    resolve_of_operandByte s rfl⟩
  case immediateByte => rw [Operand.value, resolve_of_operandByte s rfl]; rfl
  case indirect => rw [resolve_of_operandWord s rfl, Operand.address, State.jumpPointer, apply_ite Except.ok]; rfl
  case indirectX => rw [resolve_of_operandByte s rfl, Operand.address, State.zeroPagePointer_eq]
  case indirectY => rw [resolve_of_operandByte s rfl, Operand.address, State.zeroPagePointer_eq]

/-- Settles O26: immediate is the one mode whose operand byte comes from the instruction. -/
theorem operandByteIsTheByteAtTheAddress : Obligations.OperandByteIsTheByteAtTheAddress := by
  intro o s h
  cases o with
  | immediate n => exact absurd rfl h
  | _ => rfl

end Sys2Proof.Machine
end

section
/-! PROOFS. Loads, stores and transfers (42_load_store_transfer.md R120 to R131). Each is its effect, the write of a
register or of a byte and perhaps of P; `exec_of_effect` puts the move of PC around it. -/

namespace Sys2Proof.Machine

-- From an instruction's effect to what it completes with.

section ofEffect
variable {i : Instr} {s : State} {v p' : Byte} {flags : List (Flag × Bool)}

/-- An instruction in range whose effect is known, and leaves PC at the snapshot, ends in that effect's state with PC at
the next instruction (40_engine_step.md R85). -/
theorem exec_of_effect {u : State} (hr : OperandInRange i s) (he : effect i s.snapshot = u) (hpc : u.pc = s.pc + 1) :
    exec i s = .next (u.setPC (nextPC i s)) := by
  subst he
  exact exec_in_range hr hpc

theorem completesWithA_of_effect (hr : OperandInRange i s) (he : effect i s.snapshot = (s.snapshot.setA v).setP p')
    (hf : FlagsAfter s.p p' flags) : CompletesWithA i s v flags :=
  ⟨p', exec_of_effect hr he rfl, hf⟩

theorem completesWithX_of_effect (hr : OperandInRange i s) (he : effect i s.snapshot = (s.snapshot.setX v).setP p')
    (hf : FlagsAfter s.p p' flags) : CompletesWithX i s v flags :=
  ⟨p', exec_of_effect hr he rfl, hf⟩

theorem completesWithY_of_effect (hr : OperandInRange i s) (he : effect i s.snapshot = (s.snapshot.setY v).setP p')
    (hf : FlagsAfter s.p p' flags) : CompletesWithY i s v flags :=
  ⟨p', exec_of_effect hr he rfl, hf⟩

theorem completesWithByte_of_effect {a : Word} (hr : OperandInRange i s)
    (he : effect i s.snapshot = (s.snapshot.writeByte a v).setP p') (hf : FlagsAfter s.p p' flags) :
    CompletesWithByte i s a v flags :=
  ⟨p', _, exec_of_effect hr he rfl, hf, memoryAfter_write s.memory a v⟩

end ofEffect

/-- An instruction without an operand is in range everywhere (60_exceptions.md R221). -/
theorem operandInRange_of_no_operand {i : Instr} (h : i.operand = none) (s : State) : OperandInRange i s := fun hl => by
  rw [length_of_no_operand h] at hl
  cases hl

/-- The effect of an instruction with an operand, by its mnemonic. -/
theorem effect_of_mnemonic {i : Instr} {o : Operand} {m : Mnemonic} (ho : i.operand = some o) (hm : i.mnemonic = m)
    (s : State) : effect i s = operandEffect o m s :=
  hm ▸ effect_of_operand ho s

/-- Settles O27: a load's effect is the write of one register and `SetZN` of the operand byte. -/
theorem loadsWriteRegisterZN : Obligations.LoadsWriteRegisterZN := by
  intro i o s ho hr
  have hflags := flagsAfter_withZN s.p (o.byteAt s.snapshot)
  exact ⟨fun hm => completesWithA_of_effect hr (effect_of_mnemonic ho hm _) hflags,
    fun hm => completesWithX_of_effect hr (effect_of_mnemonic ho hm _) hflags,
    fun hm => completesWithY_of_effect hr (effect_of_mnemonic ho hm _) hflags⟩

/-- Settles O28: a store's effect is one byte write at the operand's address, P as it was. -/
theorem storesWriteOneByte : Obligations.StoresWriteOneByte := by
  intro i o s ho hr
  refine ⟨fun hm => ?sta, fun hm => ?stx, fun hm => ?sty⟩
  case sta | stx | sty =>
    exact completesWithByte_of_effect hr (effect_of_mnemonic ho hm _) (flagsAfter_nil s.p)

/-- Settles O29: a transfer's effect is the write of its destination, with `SetZN` of the source but for TXS. -/
theorem transfersCopyRegister : Obligations.TransfersCopyRegister := by
  intro s
  have hr : ∀ {i : Instr}, i.operand = none → OperandInRange i s := fun h => operandInRange_of_no_operand h s
  have hflags := flagsAfter_withZN s.p
  exact ⟨completesWithX_of_effect (hr rfl) rfl (hflags s.a), completesWithA_of_effect (hr rfl) rfl (hflags s.x),
    completesWithY_of_effect (hr rfl) rfl (hflags s.a), completesWithA_of_effect (hr rfl) rfl (hflags s.y),
    completesWithX_of_effect (hr rfl) rfl (hflags s.sp), exec_of_effect (hr rfl) rfl rfl⟩

end Sys2Proof.Machine
end

section
/-! PROOFS. Add, subtract and the bitwise logic on A (43_arithmetic_logic.md R140 to R146). ADC and SBC are one adder,
SBC over the ones' complement of its operand: `completesWithA_of_addToA` says what the adder leaves, and what its sum,
its carry and its overflow mean is arithmetic on bytes. -/

namespace Sys2Proof.Machine

-- The flags the adder writes.

/-- Writing one more flag puts its value before the changes so far. -/
theorem flagsAfter_withFlag {p q : Byte} {flags : List (Flag × Bool)} (h : FlagsAfter p q flags) (f : Flag)
    (b : Bool) : FlagsAfter p (withFlag q f b) ((f, b) :: flags) := by
  intro g
  rw [flagOf_withFlag, List.lookup_cons]
  by_cases hg : g = f
  · simp [hg]
  · rw [if_neg hg, beq_false_of_ne hg]
    exact h g

/-- C, V and then `SetZN`, in the adder's order: C and V are not among the flags `SetZN` writes (10_state.md R22). -/
theorem flagsAfter_carry_overflow_zn (p v : Byte) (carry overflow : Bool) :
    FlagsAfter p (withZN (withFlag (withFlag p .c carry) .v overflow) v)
      ([(.c, carry), (.v, overflow)] ++ znFlags v) := by
  rw [withFlag_comm p _ _ (by decide : Flag.c ≠ .v), withZN_withFlag _ _ _ (by decide) (by decide),
    withZN_withFlag _ _ _ (by decide) (by decide)]
  exact flagsAfter_withFlag (flagsAfter_withFlag (flagsAfter_withZN p v) _ _) _ _

/-- An instruction whose effect is the adder completes with the sum in A and C, V, Z and N from the sum (R140). -/
theorem completesWithA_of_addToA {i : Instr} {s : State} {b : Byte} (hr : OperandInRange i s)
    (he : effect i s.snapshot = addToA b s.snapshot) {r : AddResult} (h : addWithCarry s.a b (s.flag .c) = r) :
    CompletesWithA i s r.value ([(.c, r.carry), (.v, r.overflow)] ++ znFlags r.value) := by
  subst h
  exact completesWithA_of_effect hr he (flagsAfter_carry_overflow_zn s.p _ _ _)

-- What the adder answers.

/-- The overflow test as a decision (10_state.md R23). -/
theorem ovf_eq_decide (a b r : Byte) :
    ovf a b r = decide (a.getLsbD 7 = b.getLsbD 7 ∧ r.getLsbD 7 ≠ a.getLsbD 7) :=
  Bool.eq_iff_iff.2 ((overflowTestLaw a b r).trans decide_eq_true_iff.symm)

/-- Bit 7 is set in the upper half of the bytes. -/
theorem getLsbD_seven (x : Byte) : x.getLsbD 7 = decide (128 ≤ x.toNat) :=
  (BitVec.msb_eq_getLsbD_last x).symm.trans (BitVec.msb_eq_decide x)

/-- The operand SBC hands to the adder is its complement to 255 (R141). -/
theorem toNat_xor_255 (m : Byte) : (m ^^^ 0xFF).toNat = 255 - m.toNat := by
  rw [show (0xFF : Byte) = BitVec.allOnes 8 from rfl, BitVec.xor_allOnes, BitVec.toNat_not]

theorem getLsbD_seven_xor_255 (m : Byte) : (m ^^^ 0xFF).getLsbD 7 = !m.getLsbD 7 := by
  rw [BitVec.getLsbD_xor]
  exact Bool.xor_true _

/-- The adder's answer by the sum with the carry as a number, and by the sign rule (R140, 10_state.md R21, R23). -/
theorem addWithCarry_eq (a b : Byte) (c : Bool) :
    addWithCarry a b c =
      { value := BitVec.ofNat 8 (a.toNat + b.toNat + if c = true then 1 else 0)
        carry := decide (a.toNat + b.toNat + (if c = true then 1 else 0) > 255)
        overflow := decide (a.getLsbD 7 = b.getLsbD 7 ∧
          (BitVec.ofNat 8 (a.toNat + b.toNat + if c = true then 1 else 0)).getLsbD 7 ≠ a.getLsbD 7) } := by
  have hcarry : c.toNat = if c = true then 1 else 0 := Bool.cond_eq_ite ..
  rw [addWithCarry, hcarry, ovf_eq_decide]

/-- The sign rule with the sign of one operand turned (R141). -/
theorem signRule_complement (a m r : Bool) : (a = !m) ∧ r ≠ a ↔ a ≠ m ∧ r = m := by
  revert a m r
  decide

/-- Adding the complement and the carry subtracts with borrow: the sum is 256 above the difference, and overflow asks
whether A and `m` differ in sign and the result has the sign of `m` (R141; D8). -/
theorem addWithCarry_complement (a m : Byte) (c : Bool) :
    addWithCarry a (m ^^^ 0xFF) c =
      { value := a - m - BitVec.ofNat 8 (if c = true then 0 else 1)
        carry := decide (a.toNat ≥ m.toNat + if c = true then 0 else 1)
        overflow := decide (a.getLsbD 7 ≠ m.getLsbD 7 ∧
          (a - m - BitVec.ofNat 8 (if c = true then 0 else 1)).getLsbD 7 = m.getLsbD 7) } := by
  have hm := m.isLt
  have hvalue : BitVec.ofNat 8 (a.toNat + (m ^^^ 0xFF).toNat + if c = true then 1 else 0) =
      a - m - BitVec.ofNat 8 (if c = true then 0 else 1) := by
    apply BitVec.eq_of_toNat_eq
    rw [toNat_xor_255]
    split <;> simp only [BitVec.toNat_sub, BitVec.toNat_ofNat] <;> omega
  have hcarry : a.toNat + (m ^^^ 0xFF).toNat + (if c = true then 1 else 0) > 255 ↔
      a.toNat ≥ m.toNat + if c = true then 0 else 1 := by
    rw [toNat_xor_255]
    split <;> omega
  rw [addWithCarry_eq, hvalue, decide_eq_decide.2 hcarry, getLsbD_seven_xor_255,
    decide_eq_decide.2 (signRule_complement _ _ _)]

/-- The overflow test on the adder's result is the signed range test of the whole sum, carry included (R145, R146). -/
theorem addWithCarry_overflow_iff (a b : Byte) (c : Bool) :
    (addWithCarry a b c).overflow = true ↔
      a.toInt + b.toInt + (if c = true then 1 else 0) < -128 ∨
        127 < a.toInt + b.toInt + (if c = true then 1 else 0) := by
  have ha := a.isLt
  have hb := b.isLt
  rw [addWithCarry_eq, decide_eq_true_iff, getLsbD_seven, getLsbD_seven, getLsbD_seven, BitVec.toNat_ofNat,
    BitVec.toInt_eq_toNat_cond, BitVec.toInt_eq_toNat_cond, ne_eq, decide_eq_decide, decide_eq_decide]
  cases c <;> simp only [Bool.false_eq_true, if_true, if_false] <;> omega

-- The obligations.

/-- Settles O30: the adder over the operand, by `addWithCarry_eq`. -/
theorem adcAddsWithCarry : Obligations.AdcAddsWithCarry := by
  intro i o s ho hm hr
  exact completesWithA_of_addToA hr (effect_of_mnemonic ho hm _) (addWithCarry_eq _ _ _)

/-- Settles O31: the adder over the complement, by `addWithCarry_complement`. -/
theorem sbcSubtractsWithBorrow : Obligations.SbcSubtractsWithBorrow := by
  intro i o s ho hm hr
  exact completesWithA_of_addToA hr (effect_of_mnemonic ho hm _) (addWithCarry_complement _ _ _)

/-- Settles O32: V after ADC is the adder's overflow. -/
theorem adcOverflowIsSignedOverflow : Obligations.AdcOverflowIsSignedOverflow := by
  intro i o s t ho hm hr ht
  obtain ⟨p', hexec, hflags⟩ :=
    completesWithA_of_addToA (b := o.byteAt s.snapshot) hr (effect_of_mnemonic ho hm _) rfl
  obtain rfl := Host.Outcome.next.inj (ht.symm.trans hexec)
  have hv : flagOf p' .v = (addWithCarry s.a (o.byteAt s.snapshot) (s.flag .c)).overflow := hflags .v
  exact (Bool.eq_iff_iff.1 hv).trans (addWithCarry_overflow_iff _ _ _)

/-- Settles O33: each is the write of A and `SetZN` of the combination. -/
theorem logicCombinesWithA : Obligations.LogicCombinesWithA := by
  intro i o s ho hr
  have hflags := flagsAfter_withZN s.p
  exact ⟨fun hm => completesWithA_of_effect hr (effect_of_mnemonic ho hm _) (hflags _),
    fun hm => completesWithA_of_effect hr (effect_of_mnemonic ho hm _) (hflags _),
    fun hm => completesWithA_of_effect hr (effect_of_mnemonic ho hm _) (hflags _)⟩

end Sys2Proof.Machine
end

section
/-! PROOFS. Shifts, rotates, increments and decrements (44_shift_incdec.md R150 to R159). The four shifts share one
tail, `shiftResult`: what it leaves is said once for A and once for memory, and each shift is that tail on an
arithmetic value, the bits going up or down being doubling and halving, the carry-in the bit that is free. -/

namespace Sys2Proof.Machine

-- The tail of a shift or rotate.

/-- C and then `SetZN`: C is not among the flags `SetZN` writes (10_state.md R22). -/
theorem flagsAfter_shiftResult (value p : Byte) (out : Bool) :
    FlagsAfter p (shiftResult value out p).p ((.c, out) :: znFlags value) := by
  rw [shiftResult, withZN_withFlag _ _ _ (by decide) (by decide)]
  exact flagsAfter_withFlag (flagsAfter_withZN p value) .c out

section ofShift
variable {i : Instr} {s : State} {v : Byte} {out : Bool} {r : RmwResult}

/-- A shift of the accumulator (41_addressing_modes.md R102). -/
theorem completesWithA_of_shift (hr : OperandInRange i s)
    (he : effect i s.snapshot = (s.snapshot.setA r.value).setP r.p) (h : r = shiftResult v out s.p) :
    CompletesWithA i s v ((.c, out) :: znFlags v) := by
  subst h
  exact completesWithA_of_effect hr he (flagsAfter_shiftResult v s.p out)

/-- A shift of the byte at an address (20_memory.md R50). -/
theorem completesWithByte_of_shift {a : Word} (hr : OperandInRange i s)
    (he : effect i s.snapshot = storeRmw a r s.snapshot) (h : r = shiftResult v out s.p) :
    CompletesWithByte i s a v ((.c, out) :: znFlags v) := by
  subst h
  exact completesWithByte_of_effect hr he (flagsAfter_shiftResult v s.p out)

end ofShift

-- The shifts as arithmetic.

/-- Bit 0 is set in the odd bytes. -/
theorem getLsbD_zero (x : Byte) : x.getLsbD 0 = decide (x.toNat % 2 = 1) :=
  Nat.testBit_zero x.toNat

theorem toNat_bitByte (c : Bool) : (bitByte c).toNat = if c = true then 1 else 0 := by
  cases c <;> rfl

/-- Moving the bits up doubles, modulo 256. -/
theorem shiftLeft_one (x : Byte) : x <<< 1 = BitVec.ofNat 8 (2 * x.toNat) := by
  apply BitVec.eq_of_toNat_eq
  rw [BitVec.toNat_shiftLeft, BitVec.toNat_ofNat, Nat.shiftLeft_eq, Nat.mul_comm]

/-- Moving the bits down halves. -/
theorem toNat_ushiftRight_one (x : Byte) : (x >>> 1).toNat = x.toNat / 2 := by
  rw [BitVec.toNat_ushiftRight, Nat.shiftRight_eq_div_pow]

/-- Putting a bit where there is none adds it. -/
theorem or_bitByte_eq_add {x : Byte} {k : Nat} (h : x.getLsbD k = false) (c : Bool) :
    x ||| bitByte c <<< k = x + bitByte c <<< k := by
  refine (BitVec.add_eq_or_of_and_eq_zero _ _ ?_).symm
  cases c with
  | false => rw [show bitByte false = 0#8 from rfl, BitVec.zero_shiftLeft, BitVec.and_zero]
  | true => rw [show bitByte true <<< k = BitVec.twoPow 8 k from rfl, BitVec.and_twoPow, h]; rfl

/-- The carry enters ROL at bit 0, which the move up has cleared. -/
theorem shiftLeft_one_or_bit (x : Byte) (c : Bool) :
    x <<< 1 ||| bitByte c = BitVec.ofNat 8 (2 * x.toNat + if c = true then 1 else 0) := by
  have hfree : (x <<< 1).getLsbD 0 = false := by simp
  apply BitVec.eq_of_toNat_eq
  rw [← BitVec.shiftLeft_zero (bitByte c), or_bitByte_eq_add hfree, BitVec.shiftLeft_zero, shiftLeft_one,
    BitVec.toNat_add, toNat_bitByte, BitVec.toNat_ofNat, BitVec.toNat_ofNat, Nat.mod_add_mod]

/-- The carry enters ROR at bit 7, which the move down has cleared. -/
theorem ushiftRight_one_or_bit (x : Byte) (c : Bool) :
    x >>> 1 ||| bitByte c <<< 7 = BitVec.ofNat 8 (x.toNat / 2 + 128 * if c = true then 1 else 0) := by
  have hfree : (x >>> 1).getLsbD 7 = false := by simp
  apply BitVec.eq_of_toNat_eq
  rw [or_bitByte_eq_add hfree, BitVec.toNat_add, toNat_ushiftRight_one, BitVec.toNat_shiftLeft, toNat_bitByte,
    Nat.shiftLeft_eq, BitVec.toNat_ofNat, Nat.add_mod_mod, Nat.mul_comm]

section arithmetic
variable (old p : Byte)

theorem asl_eq : asl old p = shiftResult (BitVec.ofNat 8 (2 * old.toNat)) (decide (128 ≤ old.toNat)) p := by
  rw [asl, shiftLeft_one, getLsbD_seven]

theorem lsr_eq : lsr old p = shiftResult (BitVec.ofNat 8 (old.toNat / 2)) (decide (old.toNat % 2 = 1)) p := by
  rw [lsr, ← toNat_ushiftRight_one, BitVec.ofNat_toNat, BitVec.setWidth_eq, getLsbD_zero]

theorem rol_eq : rol old p = shiftResult (BitVec.ofNat 8 (2 * old.toNat + if flagOf p .c = true then 1 else 0))
    (decide (128 ≤ old.toNat)) p := by
  rw [rol, shiftLeft_one_or_bit, getLsbD_seven]

theorem ror_eq : ror old p =
    shiftResult (BitVec.ofNat 8 (old.toNat / 2 + 128 * if flagOf p .c = true then 1 else 0))
      (decide (old.toNat % 2 = 1)) p := by
  rw [ror, ushiftRight_one_or_bit, getLsbD_zero]

end arithmetic

-- The obligations.

/-- Settles O34: each shift is `shiftResult` of A, by its arithmetic. -/
theorem shiftsOfAccumulator : Obligations.ShiftsOfAccumulator := by
  intro s
  have hr : ∀ {i : Instr}, i.operand = none → OperandInRange i s := fun h => operandInRange_of_no_operand h s
  exact ⟨completesWithA_of_shift (hr rfl) rfl (asl_eq s.a s.p), completesWithA_of_shift (hr rfl) rfl (lsr_eq s.a s.p),
    completesWithA_of_shift (hr rfl) rfl (rol_eq s.a s.p), completesWithA_of_shift (hr rfl) rfl (ror_eq s.a s.p)⟩

/-- Settles O35: the same on the byte at the operand's address. -/
theorem shiftsOfMemory : Obligations.ShiftsOfMemory := by
  intro i o s ho hr
  exact ⟨fun hm => completesWithByte_of_shift hr (effect_of_mnemonic ho hm _) (asl_eq _ _),
    fun hm => completesWithByte_of_shift hr (effect_of_mnemonic ho hm _) (lsr_eq _ _),
    fun hm => completesWithByte_of_shift hr (effect_of_mnemonic ho hm _) (rol_eq _ _),
    fun hm => completesWithByte_of_shift hr (effect_of_mnemonic ho hm _) (ror_eq _ _)⟩

/-- Settles O36: the effect is one byte write, with `SetZN` of the byte. -/
theorem incrementsOfMemory : Obligations.IncrementsOfMemory := by
  intro i o s ho hr
  have hflags := flagsAfter_withZN s.p
  exact ⟨fun hm => completesWithByte_of_effect hr (effect_of_mnemonic ho hm _) (hflags _),
    fun hm => completesWithByte_of_effect hr (effect_of_mnemonic ho hm _) (hflags _)⟩

/-- Settles O37: the effect is the write of one register, with `SetZN` of its new value. -/
theorem incrementsOfRegisters : Obligations.IncrementsOfRegisters := by
  intro s
  have hr : ∀ {i : Instr}, i.operand = none → OperandInRange i s := fun h => operandInRange_of_no_operand h s
  have hflags := flagsAfter_withZN s.p
  exact ⟨completesWithX_of_effect (hr rfl) rfl (hflags _), completesWithX_of_effect (hr rfl) rfl (hflags _),
    completesWithY_of_effect (hr rfl) rfl (hflags _), completesWithY_of_effect (hr rfl) rfl (hflags _)⟩

end Sys2Proof.Machine
end

section
/-! PROOFS. Compares and the bit test (45_compare_bit.md R165 to R168). Each is its effect, a write of P alone. The
three compares share `compareFlags`: its Z, which tests the difference, is set exactly when the two bytes are equal. -/

namespace Sys2Proof.Machine

/-- The same as `completesWithA_of_effect`, for an effect that writes no register but P. -/
theorem completesWithFlags_of_effect {i : Instr} {s : State} {p' : Byte} {flags : List (Flag × Bool)}
    (hr : OperandInRange i s) (he : effect i s.snapshot = s.snapshot.setP p') (hf : FlagsAfter s.p p' flags) :
    CompletesWithFlags i s flags :=
  ⟨p', exec_of_effect hr he rfl, hf⟩

/-- C and then `SetZN` of the difference: C is not among the flags `SetZN` writes (10_state.md R22), and the difference
is 0 exactly when the bytes are equal. -/
theorem flagsAfter_compareFlags (reg m p : Byte) :
    FlagsAfter p (compareFlags reg m p)
      [(.c, decide (m.toNat ≤ reg.toNat)), (.z, decide (reg = m)), (.n, (reg - m).getLsbD 7)] := by
  have hz : decide (reg = m) = decide (reg - m = 0) := decide_eq_decide.2 sub_eq_zero.symm
  rw [compareFlags, withZN_withFlag _ _ _ (by decide) (by decide), hz]
  exact flagsAfter_withFlag (flagsAfter_withZN p (reg - m)) .c _

/-- Settles O38: the effect is the write of `compareFlags` of the register and the operand byte. -/
theorem comparesSetFlagsOnly : Obligations.ComparesSetFlagsOnly := by
  intro i o s ho hr
  have hflags := fun reg => flagsAfter_compareFlags reg (o.byteAt s.snapshot) s.p
  exact ⟨fun hm => completesWithFlags_of_effect hr (effect_of_mnemonic ho hm _) (hflags s.a),
    fun hm => completesWithFlags_of_effect hr (effect_of_mnemonic ho hm _) (hflags s.x),
    fun hm => completesWithFlags_of_effect hr (effect_of_mnemonic ho hm _) (hflags s.y)⟩

/-- Z, N and then V, in the order BIT writes them (R168): the three flags differ, so their order does not matter. -/
theorem flagsAfter_zero_negative_overflow (p : Byte) (z n v : Bool) :
    FlagsAfter p (withFlag (withFlag (withFlag p .z z) .n n) .v v) [(.z, z), (.n, n), (.v, v)] := by
  rw [withFlag_comm p z n (by decide : Flag.z ≠ .n), withFlag_comm _ z v (by decide : Flag.z ≠ .v),
    withFlag_comm p n v (by decide : Flag.n ≠ .v)]
  exact flagsAfter_withFlag (flagsAfter_withFlag (flagsAfter_withFlag (flagsAfter_nil p) .v v) .n n) .z z

/-- Settles O39: the effect writes Z from `A & M`, N and V from bits 7 and 6 of M, one after the other. -/
theorem bitTestsMemory : Obligations.BitTestsMemory := by
  intro i o s ho hm hr
  exact completesWithFlags_of_effect hr (effect_of_mnemonic ho hm _) (flagsAfter_zero_negative_overflow s.p _ _ _)

end Sys2Proof.Machine
end

section
/-! PROOFS. Branches, jumps, call and return (46_control_flow.md R175 to R187). Each transfer in range has an effect
that ends in a write of PC; `exec_of_transfer` says where PC stands after the advance rule (40_engine_step.md R85). -/

namespace Sys2Proof.Machine

-- Where a transfer ends.

/-- An instruction in range whose effect ends with PC at a target ends there, or at the next instruction where the
target has the snapshot's value (R85; D18). -/
theorem exec_of_transfer {i : Instr} {s u : State} {target : Word} (hr : OperandInRange i s)
    (he : effect i s.snapshot = u.setPC target) : exec i s = .next (u.setPC (transferPC i target s)) := by
  by_cases h : target = s.pc + 1
  · rw [transferPC, if_pos h]
    exact exec_of_effect (u := u.setPC target) hr he h
  · have hpc : (effect i s.snapshot).pc ≠ s.pc + 1 := by rwa [he]
    rw [transferPC, if_neg h, exec_redirected hr hpc, he]

/-- A one-byte instruction has no second byte to fall through at: its snapshot is the next instruction. -/
theorem transferPC_of_length_one {i : Instr} (h : i.length = 1) (target : Word) (s : State) :
    transferPC i target s = target := by
  rw [transferPC, nextPC, h]
  exact ite_eq_right_iff.2 Eq.symm

/-- The operand word's address and the return word are counted from the snapshot. -/
theorem snapshot_pc_add_one (s : State) : s.snapshot.pc + 1 = s.pc + 2 :=
  BitVec.add_assoc s.pc 1 1

-- Branches.

section branch
variable {i : Instr} {d : Byte}

theorem length_of_relative (h : i.operand = some (.relative d)) : i.length = 2 := by
  rw [Instr.length, mode_of_operand h]
  rfl

/-- A branch has no operand word, so it is in range everywhere (60_exceptions.md R221). -/
theorem operandInRange_of_relative (h : i.operand = some (.relative d)) (s : State) : OperandInRange i s := fun hl => by
  rw [length_of_relative h] at hl
  cases hl

theorem nextPC_of_relative (h : i.operand = some (.relative d)) (s : State) : nextPC i s = s.pc + 2 := by
  rw [nextPC, length_of_relative h]
  rfl

end branch

/-- Settles O40: a branch taken is a transfer to its target, one not taken leaves the snapshot to the advance. -/
theorem branchesRedirectPC : Obligations.BranchesRedirectPC := by
  intro i d f want s ho hb
  have hr := operandInRange_of_relative ho s
  have haddress : (Operand.relative d).address s.snapshot = s.pc + 2 + sext16 d :=
    congrArg (· + sext16 d) (snapshot_pc_add_one s)
  have he : effect i s.snapshot =
      if s.flag f = want then s.snapshot.setPC (s.pc + 2 + sext16 d) else s.snapshot := by
    rw [effect_of_operand ho, operandEffect_branch hb, haddress]
    rfl
  by_cases htaken : s.flag f = want
  · rw [if_pos htaken] at he ⊢
    exact exec_of_transfer hr he
  · rw [if_neg htaken] at he ⊢
    rw [← nextPC_of_relative ho s]
    exact exec_of_effect (u := s.snapshot) hr he rfl

-- Jumps.

/-- Settles O41: the effect of both is the write of PC; the indirect target is `jumpPointer`, written out. -/
theorem jumpsRedirectPC : Obligations.JumpsRedirectPC :=
  fun _ s hpc => ⟨exec_of_transfer (u := s.snapshot) (fun _ => hpc) rfl,
    exec_of_transfer (u := s.snapshot) (fun _ => hpc) rfl⟩

-- Call and return.

/-- JSR pushes the address of its third byte and transfers (R186). -/
theorem exec_jsr {s : State} (w : Word) (hpc : s.pc ≠ 0xFFFE#16) :
    exec (.jsr w) s = .next ((s.pushWord (s.pc + 2)).setPC (transferPC (.jsr w) w s)) := by
  rw [← snapshot_pc_add_one]
  exact exec_of_transfer (u := s.snapshot.pushWord (s.snapshot.pc + 1)) (fun _ => hpc) rfl

/-- RTS pulls a word and goes one past it (R187). -/
theorem exec_rts (s : State) : exec .rts s = .next (s.pullWord.2.setPC (s.pullWord.1 + 1)) := by
  have hr : OperandInRange .rts s := operandInRange_of_no_operand rfl s
  have h := exec_of_transfer (u := s.snapshot.pullWord.2) (target := s.pullWord.1 + 1) hr rfl
  rwa [transferPC_of_length_one rfl] at h

/-- `readByte_pushWord` as the list of changed bytes (10_state.md R30). -/
theorem memoryAfter_pushWord (s : State) (w : Word) :
    MemoryAfter s.memory (s.pushWord w).memory
      [(stackAddress s.sp, highByte w), (stackAddress (s.sp - 1), lowByte w)] := by
  intro a
  refine (s.readByte_pushWord w a).trans ?_
  by_cases hhigh : a = stackAddress s.sp
  · subst hhigh
    rw [if_pos rfl, List.lookup_cons_self, Option.getD_some]
  · rw [if_neg hhigh, List.lookup_cons, beq_false_of_ne hhigh]
    by_cases hlow : a = stackAddress (s.sp - 1)
    · subst hlow
      rw [if_pos rfl, List.lookup_cons_self, Option.getD_some]
    · rw [if_neg hlow, List.lookup_cons, beq_false_of_ne hlow]
      rfl

/-- Settles O43: `exec_jsr`, with what the word push leaves. -/
theorem jsrPushesAndJumps : Obligations.JsrPushesAndJumps := by
  intro w s hpc
  have hsp : s.sp - 1 - 1 = s.sp - 2 := by bv_omega
  refine ⟨(s.pushWord (s.pc + 2)).memory, ?_, ?_⟩
  · rw [exec_jsr w hpc, ← hsp]
    rfl
  · rw [← stackAddress_eq_or, ← stackAddress_eq_or]
    exact memoryAfter_pushWord s (s.pc + 2)

/-- Settles O44: `exec_rts`, with the two bytes of the pull written out. -/
theorem rtsPullsAndReturns : Obligations.RtsPullsAndReturns := by
  intro s
  have hsp : s.sp + 1 + 1 = s.sp + 2 := BitVec.add_assoc s.sp 1 1
  rw [exec_rts, State.pullWord_eq, hsp, stackAddress_eq_or, stackAddress_eq_or]
  rfl

/-- RTS after a word push returns one past the word with SP as before the push, wherever PC stands in between. -/
theorem exec_rts_of_pushWord (s : State) (w target : Word) :
    exec .rts ((s.pushWord w).setPC target) = .next { s.pushWord w with sp := s.sp, pc := w + 1 } := by
  obtain ⟨hword, hstate⟩ := pullWordUndoesPushWord (s.setPC target) w
  exact (exec_rts ((s.setPC target).pushWord w)).trans (by rw [hword, hstate]; rfl)

/-- Settles O45: RTS pulls what JSR pushed, wherever the call went. -/
theorem rtsReturnsPastItsJsr : Obligations.RtsReturnsPastItsJsr := by
  intro w s hpc
  have hreturn : s.pc + 2 + 1 = s.pc + 3 := BitVec.add_assoc s.pc 2 1
  refine ⟨_, _, exec_jsr w hpc, exec_rts_of_pushWord s (s.pc + 2) _, ?_⟩
  rw [hreturn]
  rfl

end Sys2Proof.Machine
end

section
/-! PROOFS. The stack instructions, the flag instructions, NOP and BRK (47_stack_flags_system.md R195 to R208). None
has an operand, so each completes in every state and is its effect with PC one further; BRK alone changes the run
state. -/

namespace Sys2Proof.Machine

-- An instruction without an operand.

/-- An instruction without an operand whose effect is known, and leaves PC at the snapshot, ends in that effect's state
with PC one past the opcode byte (40_engine_step.md R85). -/
theorem exec_of_plain_effect {i : Instr} {s u : State} (ho : i.operand = none) (he : effect i s.snapshot = u)
    (hpc : u.pc = s.pc + 1) : exec i s = .next (u.setPC (s.pc + 1)) := by
  have hnext : nextPC i s = s.pc + 1 := by rw [nextPC, length_of_no_operand ho]; rfl
  rw [← hnext]
  exact exec_of_effect (operandInRange_of_no_operand ho s) he hpc

-- NOP and BRK.

theorem exec_nop (s : State) : exec .nop s = .next (s.setPC (s.pc + 1)) :=
  exec_of_plain_effect (u := s.snapshot) rfl rfl rfl

/-- BRK's meaning is the halting fetch (R207; D23). -/
theorem exec_brk (s : State) : exec .brk s = .next (s.halt.setPC (s.pc + 1)) :=
  exec_of_plain_effect (u := s.snapshot.halt) rfl rfl rfl

/-- Settles O50. -/
theorem nopAndBrk : Obligations.NopAndBrk :=
  fun s => ⟨exec_nop s, exec_brk s⟩

-- The flag instructions.

/-- An instruction without an operand whose effect is the write of one flag completes with that flag changed. -/
theorem completesWithFlags_of_setFlag {i : Instr} {s : State} {f : Flag} {b : Bool} (ho : i.operand = none)
    (he : effect i s.snapshot = s.snapshot.setFlag f b) : CompletesWithFlags i s [(f, b)] :=
  completesWithFlags_of_effect (operandInRange_of_no_operand ho s) he (flagsAfter_withFlag (flagsAfter_nil s.p) f b)

/-- Settles O49: the effect of each is `setFlag`. -/
theorem flagInstructionsWriteOneFlag : Obligations.FlagInstructionsWriteOneFlag := by
  intro s
  exact ⟨completesWithFlags_of_setFlag rfl rfl, completesWithFlags_of_setFlag rfl rfl,
    completesWithFlags_of_setFlag rfl rfl, completesWithFlags_of_setFlag rfl rfl,
    completesWithFlags_of_setFlag rfl rfl, completesWithFlags_of_setFlag rfl rfl,
    completesWithFlags_of_setFlag rfl rfl⟩

-- The stack instructions.

section stack
variable (s : State)

theorem exec_pha : exec .pha s = .next ((s.push s.a).setPC (s.pc + 1)) :=
  exec_of_plain_effect (u := s.snapshot.push s.a) rfl rfl rfl

theorem exec_php : exec .php s = .next ((s.push s.p).setPC (s.pc + 1)) :=
  exec_of_plain_effect (u := s.snapshot.push s.p) rfl rfl rfl

theorem exec_pla : exec .pla s = .next (((s.pull.2.setA s.pull.1).setZN s.pull.1).setPC (s.pc + 1)) :=
  exec_of_plain_effect (u := (s.snapshot.pull.2.setA s.pull.1).setZN s.pull.1) rfl rfl rfl

theorem exec_plp : exec .plp s = .next ((s.pull.2.setP s.pull.1).setPC (s.pc + 1)) :=
  exec_of_plain_effect (u := s.snapshot.pull.2.setP s.pull.1) rfl rfl rfl

/-- The one byte a push changes, at its address written out (10_state.md R28). -/
theorem memoryAfter_push (v : Byte) : MemoryAfter s.memory (s.push v).memory [(0x0100#16 ||| zext16 s.sp, v)] := by
  rw [← stackAddress_eq_or]
  exact memoryAfter_write s.memory (stackAddress s.sp) v

/-- A pull takes back the byte pushed last, and SP, wherever SP stands (10_state.md R28, R29). -/
theorem pull_push (v : Byte) : (s.push v).pull = (v, (s.push v).setSP s.sp) := by
  rw [State.pull_eq, State.push_sp, BitVec.sub_add_cancel, State.readByte_push, if_pos rfl]

/-- PLP after a push takes the pushed byte for P, whatever P is before it and wherever PC stands. -/
theorem exec_plp_of_push (v p : Byte) (target : Word) :
    exec .plp (((s.push v).setPC target).setP p) = .next { s.push v with p := v, sp := s.sp, pc := target + 1 } :=
  (exec_plp (((s.setPC target).setP p).push v)).trans (by rw [pull_push]; rfl)

end stack

/-- Settles O46: both are `push`, of A and of P. -/
theorem pushesWriteOneStackByte : Obligations.PushesWriteOneStackByte :=
  fun s => ⟨⟨_, exec_pha s, memoryAfter_push s s.a⟩, _, exec_php s, memoryAfter_push s s.p⟩

/-- Settles O47: both are `pull`, into A with `SetZN` and into P. -/
theorem pullsReadOneStackByte : Obligations.PullsReadOneStackByte := by
  intro s
  rw [← stackAddress_eq_or]
  exact ⟨⟨_, exec_pla s, flagsAfter_withZN s.p _⟩, exec_plp s⟩

/-- Settles O48: PLP pulls the byte PHP pushed. -/
theorem plpRestoresWhatPhpPushed : Obligations.PlpRestoresWhatPhpPushed := by
  intro s t u v ht hu
  obtain rfl := Host.Outcome.next.inj ((exec_php s).symm.trans ht)
  obtain rfl := Host.Outcome.next.inj ((exec_plp_of_push s s.p v (s.pc + 1)).symm.trans hu)
  have hpc : s.pc + 1 + 1 = s.pc + 2 := BitVec.add_assoc s.pc 1 1
  rw [hpc]
  rfl

end Sys2Proof.Machine
end

section
/-! PROOFS. How an instruction ends (47_stack_flags_system.md R207, R208; 60_exceptions.md R220 to R224): Halted after
BRK alone, Faulted after a three-byte instruction at 0xFFFE alone; and that the memory image still shows why. -/

namespace Sys2Proof

-- The opcode byte at PC and the instruction fetched there.

/-- An encoding is as long as the instruction (30_encoding.md R64). -/
theorem length_encode (i : Instr) : (encode i).length = i.length := by
  cases ho : i.operand with
  | none => simp [encode, ho, Machine.length_of_no_operand ho]
  | some o =>
    rw [encode, ho, Instr.length, Machine.mode_of_operand ho]
    cases o <;> rfl

theorem length_operandField (shape : Shape) (b1 b2 : Byte) :
    (shape.operandField b1 b2).length = shape.operandBytes := by
  cases shape <;> rfl

section complete
variable {c : Byte} {shape : Shape} (h : opcodeShape c = some shape) (b1 b2 : Byte)
include h

theorem opcode_complete : (shape.complete b1 b2).opcode = c :=
  (List.cons.inj (encode_complete h b1 b2)).1

theorem length_complete : (shape.complete b1 b2).length = shape.operandBytes + 1 := by
  rw [← length_encode, encode_complete h, List.length_cons, length_operandField]

end complete

end Sys2Proof

namespace Sys2Proof.Machine

section fetch
variable {i : Instr} {s : State} (h : s.fetch = some i)
include h

/-- What is fetched is built by the table entry of the byte at PC (40_engine_step.md R82). -/
theorem exists_shape_of_fetch :
    ∃ shape b1 b2, opcodeShape (s.readByte s.pc) = some shape ∧ shape.complete b1 b2 = i := by
  obtain ⟨shape, hshape, hi⟩ := Option.map_eq_some_iff.1 h
  exact ⟨shape, _, _, hshape, hi⟩

theorem readByte_pc_of_fetch : s.readByte s.pc = i.opcode := by
  obtain ⟨shape, b1, b2, hshape, rfl⟩ := exists_shape_of_fetch h
  exact (opcode_complete hshape b1 b2).symm

theorem operandBytes_of_fetch :
    (opcodeShape (s.readByte s.pc)).map Shape.operandBytes = some (i.length - 1) := by
  obtain ⟨shape, b1, b2, hshape, rfl⟩ := exists_shape_of_fetch h
  rw [hshape, length_complete hshape]
  rfl

end fetch

-- The run state an instruction ends in.

theorem eq_brk_of_mnemonic {i : Instr} (h : i.mnemonic = .brk) : i = .brk := by
  cases i with
  | brk => rfl
  | _ => cases h

/-- The run state after an instruction, in every case (R207, R221). -/
theorem exec_runState {i : Instr} {s t : State} (h : exec i s = .next t) :
    t.runState =
      if i.length = 3 ∧ s.pc = 0xFFFE#16 then .faulted ⟨0x10000⟩
      else if i = .brk then .halted else s.runState := by
  obtain ⟨hl, hpc, rfl⟩ | ⟨hrange, rfl⟩ := exec_cases h
  · rw [if_pos ⟨hl, hpc⟩]
    rfl
  · rw [if_neg hrange, State.advance_runState]
    by_cases hbrk : i = .brk
    · subst hbrk
      rfl
    · rw [if_neg hbrk]
      exact effect_runState s.snapshot fun hm => hbrk (eq_brk_of_mnemonic hm)

/-- Settles O9: `exec_runState` from Running; BRK has one byte, so the fault and the halt exclude each other. -/
theorem instructionEndsHaltedOrFaultedExactlyWhen : Obligations.InstructionEndsHaltedOrFaultedExactlyWhen := by
  intro i s t hs h
  have ht := exec_runState h
  rw [hs] at ht
  by_cases htop : i.length = 3 ∧ s.pc = 0xFFFE#16
  · have hbrk : i ≠ .brk := by
      rintro rfl
      exact absurd htop.1 (by decide)
    rw [ht, if_pos htop]
    exact ⟨iff_of_false RunState.noConfusion hbrk,
      fun e => ⟨fun he => ⟨(RunState.faulted.inj he).symm, htop⟩, fun he => congrArg RunState.faulted he.1.symm⟩⟩
  · rw [if_neg htop] at ht
    by_cases hbrk : i = .brk
    · rw [ht, if_pos hbrk]
      exact ⟨iff_of_true rfl hbrk, fun e => iff_of_false RunState.noConfusion fun he => htop he.2⟩
    · rw [ht, if_neg hbrk]
      exact ⟨iff_of_false RunState.noConfusion hbrk, fun e => iff_of_false RunState.noConfusion fun he => htop he.2⟩

-- What the terminal states say of PC and memory.

/-- Where the byte before PC was a halting byte, halting on it leaves it there (R208). -/
theorem haltedPastHaltByte_of_halt {s : State}
    (h : s.readByte s.pc = 0x00#8 ∨ opcodeShape (s.readByte s.pc) = none) :
    HaltedPastHaltByte (s.halt.setPC (s.pc + 1)) := by
  intro _
  have hpc : s.pc + 1 - 1 = s.pc := BitVec.add_sub_cancel s.pc 1
  rwa [← hpc] at h

/-- Settles O13: a step is taken in Running and ends Halted on the byte it fetched, or Faulted on a three-byte opcode at
0xFFFE, with the image as it was. -/
theorem stepKeepsEndStatesTruthful : Obligations.StepKeepsEndStatesTruthful := by
  intro s t _ _ h
  obtain ⟨hs, ⟨hf, rfl⟩ | ⟨i, hf, hi⟩⟩ := step_cases h
  · exact ⟨haltedPastHaltByte_of_halt (.inr (fetch_eq_none.1 hf)), fun _ he => by cases he⟩
  · obtain ⟨hhalted, hfaulted⟩ := instructionEndsHaltedOrFaultedExactlyWhen i s t hs hi
    refine ⟨fun ht => ?halted, fun e ht => ?faulted⟩
    case halted =>
      obtain rfl := hhalted.1 ht
      obtain rfl := Host.Outcome.next.inj ((exec_brk s).symm.trans hi)
      exact haltedPastHaltByte_of_halt (.inl (readByte_pc_of_fetch hf)) ht
    case faulted =>
      obtain ⟨rfl, hl, hpc⟩ := (hfaulted e).1 ht
      have hbytes := operandBytes_of_fetch hf
      rw [hl, hpc] at hbytes
      obtain ⟨-, -, rfl⟩ | ⟨hrange, -⟩ := exec_cases hi
      · exact ⟨rfl, rfl, hbytes⟩
      · exact absurd ⟨hl, hpc⟩ hrange

end Sys2Proof.Machine
end

section
/-! PROOFS. The two corners of a three-byte form: an operand word that leaves memory (60_exceptions.md R221, R222), and
an indirect jump whose pointer is the last byte of its page (70_reset_and_hazards.md R251). -/

namespace Sys2Proof.Machine

/-- Settles O10: the fault branch of `exec_eq_effect`, in which no effect is applied. -/
theorem wordOperandAtTopFaults : Obligations.WordOperandAtTopFaults := by
  intro i s hl hpc
  rw [exec_eq_effect, if_pos ⟨hl, hpc⟩]

/-- Clearing an address's low byte gives the start of its page. -/
theorem wordOfBytes_and_page (hi lo : Byte) : wordOfBytes hi lo &&& 0xFF00#16 = wordOfBytes hi 0x00#8 := by
  have hmask : (0xFF00#16 : Word) = 0xFF#8 ++ 0x00#8 := rfl
  have hhi : hi &&& 0xFF#8 = hi := BitVec.and_allOnes
  have hlo : lo &&& 0x00#8 = 0x00#8 := BitVec.and_zero
  rw [wordOfBytes, hmask, BitVec.and_append, hhi, hlo, wordOfBytes]

/-- A pointer at the last byte of a page takes the high byte of its word from the page's first (R109, R251). -/
theorem State.jumpPointer_page_end (s : State) (page : Byte) :
    s.jumpPointer (wordOfBytes page 0xFF#8) =
      wordOfBytes (s.readByte (wordOfBytes page 0x00#8)) (s.readByte (wordOfBytes page 0xFF#8)) := by
  have hwrap : s.jumpPointer (wordOfBytes page 0xFF#8) =
      wordOfBytes (s.readByte (wordOfBytes page 0xFF#8 &&& 0xFF00#16)) (s.readByte (wordOfBytes page 0xFF#8)) :=
    if_pos (lowByte_wordOfBytes page 0xFF#8)
  rw [hwrap, wordOfBytes_and_page]

/-- JMP indirect transfers to the word its pointer gives (46_control_flow.md R184). -/
theorem exec_jmpIndirect {s : State} (w : Word) (hpc : s.pc ≠ 0xFFFE#16) :
    exec (.jmpIndirect w) s = .next (s.setPC (transferPC (.jmpIndirect w) (s.jumpPointer w) s)) :=
  (jumpsRedirectPC w s hpc).2

/-- Settles O42: the jump goes to its pointer's word, which `jumpPointer_page_end` reads within the page. -/
theorem indirectJumpWrapsInPage : Obligations.IndirectJumpWrapsInPage := by
  intro page s hpc htarget
  rw [exec_jmpIndirect _ hpc, s.jumpPointer_page_end, transferPC, if_neg htarget]
  rfl

end Sys2Proof.Machine
end
